-- ==== Sys2Proof/Word.lean ====
section
/-! DEFINITION. The words the block moves (30_encoding.md R81, 20_memory.md R64) and the integer clamp of the
spec's notation (00_scope.md R10). -/

namespace Sys2Proof

/-- The 32-bit data of one host transaction (20_memory.md R64). -/
abbrev Word := BitVec 32

/-- The 37-bit transaction word: W at bit 36, ADDR at bits 35:32, DATA at bits 31:0 (30_encoding.md R81). -/
abbrev HostWord := BitVec 37

/-- A 4-bit register address of the host register space (20_memory.md R61). -/
abbrev RegAddr := BitVec 4

/-- A 12-bit two's complement wave-table sample (10_state.md R35). -/
abbrev Sample := BitVec 12

/-- `clamp(v, lo, hi) = min(max(v, lo), hi)` (00_scope.md R10). -/
def clamp (v lo hi : Int) : Int := min (max v lo) hi

end Sys2Proof
end

