-- ==== Sys2Proof/Syntax.lean ====
section
/-! DEFINITION. The operations of the block, one constructor per row of spec/opcode_table.json: 32 host
transactions, the three single-bit commands, NOP and the port events (30_encoding.md R84, R97). An operand is a
field the table gives the row. -/

namespace Sys2Proof

/-- The three buttons (10_state.md R42): octave-up (index 0), octave-down (1), waveform-cycle (2). -/
inductive Button where
  | up
  | dn
  | wv
deriving DecidableEq, Repr

/-- The index `b` of a button (10_state.md R42). -/
def Button.index : Button → Nat
  | .up => 0
  | .dn => 1
  | .wv => 2

/-- The operations. The rules in the docstrings are those of 42_host_interface.md, but for the port events. -/
inductive Instr where
  /-- R161 -/
  | rdCtrl
  /-- R162 -/
  | wrCtrl (data : Word)
  /-- R163 -/
  | rdNote
  /-- R164 -/
  | wrNote (data : Word)
  /-- R165 -/
  | rdOctave
  /-- R166 -/
  | wrOctave (data : Word)
  /-- R167 -/
  | rdWaveform
  /-- R168 -/
  | wrWaveform (data : Word)
  /-- R169 -/
  | rdVolume
  /-- R170 -/
  | wrVolume (data : Word)
  /-- R171 -/
  | rdCmd
  /-- R175, R176: any DATA[2:0] that is not one of the three single-bit forms below -/
  | wrCmd (data : Word)
  /-- R177 -/
  | rdFlags
  /-- R178 -/
  | wrFlags (data : Word)
  /-- R179 -/
  | rdFlagsSet
  /-- R180 -/
  | wrFlagsSet (data : Word)
  /-- R181 -/
  | rdPhase
  /-- R182 -/
  | wrPhase (data : Word)
  /-- R183 -/
  | rdOutCode
  /-- R184 -/
  | wrOutCode (data : Word)
  /-- R185 -/
  | rdStatus
  /-- R186 -/
  | wrStatus (data : Word)
  /-- R187, address 0xB -/
  | rdRsvd11
  /-- R188, address 0xB -/
  | wrRsvd11
  /-- R187, address 0xC -/
  | rdRsvd12
  /-- R188, address 0xC -/
  | wrRsvd12
  /-- R187, address 0xD -/
  | rdRsvd13
  /-- R188, address 0xD -/
  | wrRsvd13
  /-- R187, address 0xE -/
  | rdRsvd14
  /-- R188, address 0xE -/
  | wrRsvd14
  /-- R187, address 0xF -/
  | rdRsvd15
  /-- R188, address 0xF -/
  | wrRsvd15
  /-- R172: WR CMD with DATA[2:0] = 0b001 -/
  | wrCmdOctUp
  /-- R173: WR CMD with DATA[2:0] = 0b010 -/
  | wrCmdOctDown
  /-- R174: WR CMD with DATA[2:0] = 0b100 -/
  | wrCmdWaveNext
  /-- R189 -/
  | nop
  /-- 40_dds_engine.md R111 -/
  | tick
  /-- 41_input_bridge.md R140, button 0 -/
  | btnFallUp
  /-- 41_input_bridge.md R140, button 1 -/
  | btnFallDn
  /-- 41_input_bridge.md R140, button 2 -/
  | btnFallWv
  /-- 41_input_bridge.md R143 -/
  | srdyEdge
  /-- 41_input_bridge.md R144 -/
  | pollTick
  /-- 70_reset_and_hazards.md R220 -/
  | reset
deriving DecidableEq, Repr

/-- The falling-edge event of a button (30_encoding.md R97). -/
def Instr.btnFall : Button → Instr
  | .up => .btnFallUp
  | .dn => .btnFallDn
  | .wv => .btnFallWv

end Sys2Proof
end

