-- ==== Sys2Proof/WellFormed.lean ====
section
/-! DEFINITION. The one check on an operation's operands: a `WR CMD` whose three command bits are a single-bit form
is the row of that form (spec/opcode_table.json: "single-bit form of WR CMD, other DATA[2:0] combinations are WR
CMD (R175)"), so the general row never carries it. -/

namespace Sys2Proof

/-- DATA[2:0] has exactly one bit set: the forms of 42_host_interface.md R172, R173, R174. -/
def singleCommand (data : Word) : Bool :=
  let cmd := data.extractLsb' 0 3
  cmd == 0b001#3 || cmd == 0b010#3 || cmd == 0b100#3

/-- Well-formed operations: every operand value is allowed but for the single-bit commands, which have rows of
their own (log 16). -/
def wellFormed : Instr → Bool
  | .wrCmd data => !singleCommand data
  | .rdCtrl | .wrCtrl _ | .rdNote | .wrNote _ | .rdOctave | .wrOctave _ | .rdWaveform | .wrWaveform _
  | .rdVolume | .wrVolume _ | .rdCmd | .rdFlags | .wrFlags _ | .rdFlagsSet | .wrFlagsSet _ | .rdPhase
  | .wrPhase _ | .rdOutCode | .wrOutCode _ | .rdStatus | .wrStatus _ | .rdRsvd11 | .wrRsvd11 | .rdRsvd12
  | .wrRsvd12 | .rdRsvd13 | .wrRsvd13 | .rdRsvd14 | .wrRsvd14 | .rdRsvd15 | .wrRsvd15 | .wrCmdOctUp
  | .wrCmdOctDown | .wrCmdWaveNext | .nop | .tick | .btnFallUp | .btnFallDn | .btnFallWv | .srdyEdge
  | .pollTick | .reset => true

end Sys2Proof
end

