-- ==== Sys2Proof/Decode.lean ====
section
/-! DEFINITION. Encoding and decoding (30_encoding.md). An operation is presented as the bits of one FORMAT of
spec/opcode_table.json: the 37-bit transaction word (R81), or a vector of named ports and state bits (R97), leftmost
name of the table's format in the most significant bit. Decoding is total and rejects by name. -/

namespace Sys2Proof

/-- The bits an operation is read from, one constructor per format of the opcode table. -/
inductive OpWord where
  /-- HOST37: a transaction word (R81), looked at when `bus_valid = 1` and `rst = 0`. -/
  | host37 (w : HostWord)
  /-- PORTVEC(rst, bus_valid). -/
  | bus (v : BitVec 2)
  /-- PORTVEC(rst, tick_i). -/
  | tick (v : BitVec 2)
  /-- PORTVEC(rst, BS3[b], BS2[b]). -/
  | btn (b : Button) (v : BitVec 3)
  /-- PORTVEC(rst, CTRL.SRDY_SRC, RS3, RS2), both levels normalised so that 1 is active. -/
  | srdy (v : BitVec 4)
  /-- PORTVEC(rst, CTRL.SRDY_SRC, tick_i). -/
  | poll (v : BitVec 3)
  /-- PORTVEC(rst). -/
  | rst (v : BitVec 1)
deriving DecidableEq, Repr

/-- Why a format's bits are no operation. No word of the transaction format is ever rejected (R84, R96). -/
inductive Reject where
  /-- `rst = 1`: nothing but RESET happens (70_reset_and_hazards.md R220). -/
  | resetCycle
  /-- `rst = 0`: no RESET in this cycle. -/
  | notReset
  /-- `bus_valid = 1`: the transaction word says what the host does, so it is no NOP. -/
  | transactionPresent
  /-- `tick_i = 0`: no TICK or POLL_TICK. -/
  | noTick
  /-- The synchronized line of the button does not fall (41_input_bridge.md R132). -/
  | noFall
  /-- The synchronized sensor line does not become active (41_input_bridge.md R141). -/
  | noReadyEdge
  /-- CTRL.SRDY_SRC selects the periodic poll (41_input_bridge.md R142). -/
  | edgeNotSelected
  /-- CTRL.SRDY_SRC selects the edge source (41_input_bridge.md R142). -/
  | pollNotSelected
deriving DecidableEq, Repr

/-- The `W` field, bit 36 (R81): true for a write. -/
def wField (w : HostWord) : Bool := w.getLsbD 36
/-- The `ADDR` field, bits 35:32 (R81). -/
def addrField (w : HostWord) : RegAddr := w.extractLsb' 32 4
/-- The `DATA` field, bits 31:0 (R81). -/
def dataField (w : HostWord) : Word := w.extractLsb' 0 32

/-- The transaction word of its three fields (R81). -/
def hostWord (we : Bool) (addr : RegAddr) (data : Word) : HostWord := BitVec.ofBool we ++ addr ++ data

/-- A write of CMD (R90): the single-bit forms have their own rows (42_host_interface.md R172 to R174), every other
combination of the three bits is the general row (R175). -/
def decodeCommand (data : Word) : Instr :=
  let cmd := data.extractLsb' 0 3
  if cmd = 0b001#3 then .wrCmdOctUp
  else if cmd = 0b010#3 then .wrCmdOctDown
  else if cmd = 0b100#3 then .wrCmdWaveNext
  else .wrCmd data

/-- The read transactions by address, the left half of R84. -/
def decodeRead (addr : RegAddr) : Instr :=
  match addr.toNat with
  | 0x0 => .rdCtrl
  | 0x1 => .rdNote
  | 0x2 => .rdOctave
  | 0x3 => .rdWaveform
  | 0x4 => .rdVolume
  | 0x5 => .rdCmd
  | 0x6 => .rdFlags
  | 0x7 => .rdFlagsSet
  | 0x8 => .rdPhase
  | 0x9 => .rdOutCode
  | 0xA => .rdStatus
  | 0xB => .rdRsvd11
  | 0xC => .rdRsvd12
  | 0xD => .rdRsvd13
  | 0xE => .rdRsvd14
  | _ => .rdRsvd15

/-- The write transactions by address, the right half of R84. -/
def decodeWrite (addr : RegAddr) (data : Word) : Instr :=
  match addr.toNat with
  | 0x0 => .wrCtrl data
  | 0x1 => .wrNote data
  | 0x2 => .wrOctave data
  | 0x3 => .wrWaveform data
  | 0x4 => .wrVolume data
  | 0x5 => decodeCommand data
  | 0x6 => .wrFlags data
  | 0x7 => .wrFlagsSet data
  | 0x8 => .wrPhase data
  | 0x9 => .wrOutCode data
  | 0xA => .wrStatus data
  | 0xB => .wrRsvd11
  | 0xC => .wrRsvd12
  | 0xD => .wrRsvd13
  | 0xE => .wrRsvd14
  | _ => .wrRsvd15

/-- The operation of a transaction word: total, "every one of the 2^37 words selects exactly one row" (R84). A
read's DATA is not looked at (R82). -/
def decodeHost (w : HostWord) : Instr :=
  if wField w then decodeWrite (addrField w) (dataField w) else decodeRead (addrField w)

/-- The operation a format's bits are, or why they are none (R84, R97). -/
def decode : OpWord → Except Reject Instr
  | .host37 w => .ok (decodeHost w)
  | .bus v =>
    if v.getLsbD 1 then .error .resetCycle
    else if v.getLsbD 0 then .error .transactionPresent
    else .ok .nop
  | .tick v =>
    if v.getLsbD 1 then .error .resetCycle
    else if v.getLsbD 0 then .ok .tick
    else .error .noTick
  | .btn b v =>
    if v.getLsbD 2 then .error .resetCycle
    else if v.getLsbD 1 && !v.getLsbD 0 then .ok (Instr.btnFall b)
    else .error .noFall
  | .srdy v =>
    if v.getLsbD 3 then .error .resetCycle
    else if v.getLsbD 2 then .error .edgeNotSelected
    else if !v.getLsbD 1 && v.getLsbD 0 then .ok .srdyEdge
    else .error .noReadyEdge
  | .poll v =>
    if v.getLsbD 2 then .error .resetCycle
    else if !v.getLsbD 1 then .error .pollNotSelected
    else if v.getLsbD 0 then .ok .pollTick
    else .error .noTick
  | .rst v => if v.getLsbD 0 then .ok .reset else .error .notReset

/-- A read transaction's word: its ignored DATA is written 0 (R96). -/
def readWord (addr : RegAddr) : OpWord := .host37 (hostWord false addr 0)
/-- A write transaction's word. -/
def writeWord (addr : RegAddr) (data : Word) : OpWord := .host37 (hostWord true addr data)

/-- The bits of an operation, from the tables of R84, R97 and spec/opcode_table.json; ignored bits are 0 (R96). -/
def encode : Instr → OpWord
  | .rdCtrl => readWord 0x0
  | .wrCtrl data => writeWord 0x0 data
  | .rdNote => readWord 0x1
  | .wrNote data => writeWord 0x1 data
  | .rdOctave => readWord 0x2
  | .wrOctave data => writeWord 0x2 data
  | .rdWaveform => readWord 0x3
  | .wrWaveform data => writeWord 0x3 data
  | .rdVolume => readWord 0x4
  | .wrVolume data => writeWord 0x4 data
  | .rdCmd => readWord 0x5
  | .wrCmd data => writeWord 0x5 data
  | .rdFlags => readWord 0x6
  | .wrFlags data => writeWord 0x6 data
  | .rdFlagsSet => readWord 0x7
  | .wrFlagsSet data => writeWord 0x7 data
  | .rdPhase => readWord 0x8
  | .wrPhase data => writeWord 0x8 data
  | .rdOutCode => readWord 0x9
  | .wrOutCode data => writeWord 0x9 data
  | .rdStatus => readWord 0xA
  | .wrStatus data => writeWord 0xA data
  | .rdRsvd11 => readWord 0xB
  | .wrRsvd11 => writeWord 0xB 0
  | .rdRsvd12 => readWord 0xC
  | .wrRsvd12 => writeWord 0xC 0
  | .rdRsvd13 => readWord 0xD
  | .wrRsvd13 => writeWord 0xD 0
  | .rdRsvd14 => readWord 0xE
  | .wrRsvd14 => writeWord 0xE 0
  | .rdRsvd15 => readWord 0xF
  | .wrRsvd15 => writeWord 0xF 0
  | .wrCmdOctUp => writeWord 0x5 1
  | .wrCmdOctDown => writeWord 0x5 2
  | .wrCmdWaveNext => writeWord 0x5 4
  | .nop => .bus 0b00#2
  | .tick => .tick 0b01#2
  | .btnFallUp => .btn .up 0b010#3
  | .btnFallDn => .btn .dn 0b010#3
  | .btnFallWv => .btn .wv 0b010#3
  | .srdyEdge => .srdy 0b0001#4
  | .pollTick => .poll 0b011#3
  | .reset => .rst 0b1#1

/-- The format a table word stands for, from its number of bits and its value. A row of 9 bits or more is HOST37. The
port-event rows have at most 4 bits and the same bit strings under different port names, so their number of bits
and value do not always name a format; log 15 says how the choice is made. -/
def tableWord (nbits w : Nat) : Option OpWord :=
  if 9 ≤ nbits then (if w < 2 ^ 37 then some (.host37 (BitVec.ofNat 37 w)) else none)
  else
    match nbits, w with
    | 1, 1 => some (.rst 1#1)
    | 2, 0 => some (.bus 0b00#2)
    | 2, 1 => some (.tick 0b01#2)
    | 3, 2 => some (.btn .up 0b010#3)
    | 3, 3 => some (.poll 0b011#3)
    | 4, 1 => some (.srdy 0b0001#4)
    | 8, 0 => some (.bus 0b00#2)
    | 8, 1 => some (.tick 0b01#2)
    | 8, 2 => some (.btn .up 0b010#3)
    | 8, 3 => some (.poll 0b011#3)
    | _, _ => none

/-- The operation the decoder reads from a word of the opcode table. -/
def decodeTableWord (nbits w : Nat) : Option Instr :=
  match tableWord nbits w with
  | some ow =>
    match decode ow with
    | .ok i => some i
    | .error _ => none
  | none => none

end Sys2Proof
end

