-- ==== Sys2Proof/Config.lean ====
section
/-! DEFINITION. The implementation parameters of 00_scope.md R6: the fixed numbers, the configuration record that
the machine takes as an argument, the constraints on it (93_implementation_defined.md section 2), the derivation
of the tuning words (R7), all the parameters with it, and the opaque contents of the two ROMs. -/

namespace Sys2Proof.Config

/-- `TABLE_LEN`: entries per wave table (00_scope.md R6). -/
def tableLen : Nat := 20
/-- `NOTE_COUNT`: entries of the note table (R6). -/
def noteCount : Nat := 13
/-- `WAVE_COUNT`: Sine, Triangle, Sawtooth (R6, R8). -/
def waveCount : Nat := 3
/-- `OCT_MIN` (R6). -/
def octMin : Int := -3
/-- `OCT_MAX` (R6). -/
def octMax : Int := 3
/-- `VOL_MAX` (R6). -/
def volMax : Int := 100
/-- `MID_SCALE`: the DC code (R6). -/
def midScale : Int := 2048
/-- `FULL_SCALE`: the largest output code (R6). -/
def fullScale : Int := 4095
/-- `PHASE_FRAC_BITS` (R6). -/
def phaseFracBits : Nat := 27
/-- `PHASE_MOD = 20 * 2^27 = 0xA000_0000` (R6). -/
def phaseMod : Nat := 0xA0000000
/-- The largest note index, 12.0 in 4.8 fixed point (10_state.md R26). -/
def noteMax : Nat := 0xC00

/-- `CADENCE`, ticks per produced sample: 1 or 2 (R6, 40_dds_engine.md R101). -/
inductive Cadence where
  | one
  | two
deriving DecidableEq, Repr

/-- The factor `CADENCE` as a number (R7). -/
def Cadence.factor : Cadence → Nat
  | .one => 1
  | .two => 2

/-- The parameters that R6 lets an integrator choose and that the machine reads: "the model takes it as an argument (a configuration
field)". Fixed when the block is built (70_reset_and_hazards.md R226); no step changes them (20_memory.md R67). -/
structure Params where
  /-- `CADENCE`, default 2. -/
  cadence : Cadence
  /-- `SRDY_ACTIVE_HIGH`: true for 1, the default. -/
  srdyActiveHigh : Bool
  /-- `POLL_PERIOD`, 1..255, default 50. -/
  pollPeriod : BitVec 8
  /-- `DEBOUNCE_CYCLES` (`D`), 1..65535, default 100. -/
  debounceCycles : BitVec 16
  /-- `INC3_ROM[0..12]`: the tuning words at octave -3, each at least 1 (10_state.md R35). -/
  inc3 : Vector Word 13
  /-- `WAVE_ROM[0..2][0..19]`: 12-bit two's complement samples (10_state.md R35). -/
  wave : Vector (Vector Sample 20) 3
deriving DecidableEq, Repr

/-- The constraints of 93_implementation_defined.md section 2 on what the machine reads: a period and a debounce count
of at least 1, and no tuning word 0 (70_reset_and_hazards.md R226). The upper bounds are the widths of the fields. The
constraints on all of R6 are `BuildParams.Legal`. -/
abbrev Params.Legal (c : Params) : Prop :=
  c.pollPeriod ≠ 0 ∧ c.debounceCycles ≠ 0 ∧ ∀ n : Fin 13, c.inc3[n] ≠ 0

/-- The inactive level of the sensor-ready line, `1 - SRDY_ACTIVE_HIGH` (10_state.md R41). -/
def Params.srdyInactive (c : Params) : Bool := !c.srdyActiveHigh

/-- The thirteen tuning words before the constraint of R6 is put on them. OPEN in the spec (91_not_in_source.md
N1, N3): a free value, log 7. -/
opaque inc3Free : Vector Word 13

/-- `INC3_ROM` of the default configuration: any words at all, but for 0, which is no legal tuning word
(70_reset_and_hazards.md R226); log 7. -/
def inc3Rom : Vector Word 13 := inc3Free.map fun w => if w = 0 then 1 else w

/-- `WAVE_ROM` of the default configuration. OPEN in the spec (91_not_in_source.md N2); every 12-bit pattern is a
legal sample: a free value, log 8. -/
opaque waveRom : Vector (Vector Sample 20) 3

/-- What a read of a wave table that does not exist gives (WAVEFORM 3 or a table index of 20 or more): states that
R43 rules out and for which "no table is defined" (93_implementation_defined.md section 3). A free value of the
indices, log 9. -/
opaque waveUndefined : BitVec 2 → BitVec 5 → Sample

/-- The configuration with the spec's defaults (R6), the ROMs free. -/
def defaults : Params where
  cadence := .two
  srdyActiveHigh := true
  pollPeriod := 50
  debounceCycles := 100
  inc3 := inc3Rom
  wave := waveRom

/-- `round_half_up(x) = floor(x + 1/2)` (R10), on every field with a floor: the spec's real numbers, and the rationals
where a value is to be evaluated. -/
def roundHalfUp {K : Type} [Field K] [LinearOrder K] [FloorRing K] (x : K) : Int := ⌊x + 1 / 2⌋

/-- The exact increment of R7, in units of `2^-27` table entries per sample, of a note of frequency `freq` Hz at
octave -3 with ticks at `tickRate` Hz: `freq * 2^-3 / (tickRate / CADENCE) * 20 * 2^27`. -/
def exactIncrement {K : Type} [Field K] (freq tickRate : K) (c : Cadence) : K :=
  freq / 8 / (tickRate / c.factor) * 20 * 2 ^ 27

/-- The tuning word R7 has the integrator compute: the exact increment, rounded. `NOTE_FREQ` and `TICK_RATE` enter
no other rule. -/
def tuningWord {K : Type} [Field K] [LinearOrder K] [FloorRing K] (freq tickRate : K) (c : Cadence) : Int :=
  roundHalfUp (exactIncrement freq tickRate c)

/-- All the parameters of R6 that the integrator fixes before the block is used (70_reset_and_hazards.md R226): those
that the machine reads (`Params`) and the two real-valued ones that enter only the derivation of `INC3_ROM`. The
machine's state carries the `Params` alone, because a real number is no plain data (log 17). -/
structure BuildParams extends Params where
  /-- `TICK_RATE`, positive, Hz: the rate of `tick_i` pulses. -/
  tickRate : ℝ
  /-- `NOTE_FREQ[0..12]`, positive, Hz: the base frequencies. -/
  noteFreq : Vector ℝ 13

/-- `INC3_ROM[n] = round_half_up(NOTE_FREQ[n] * 2^-3 / (TICK_RATE / CADENCE) * 20 * 2^27)` for every note (R7). -/
def BuildParams.Derived (q : BuildParams) : Prop :=
  ∀ n : Fin 13, (q.inc3[n].toNat : Int) = tuningWord q.noteFreq[n] q.tickRate q.cadence

/-- Every constraint of R6 and R7: the machine's own parameters are legal, the rate and the frequencies are positive,
and `INC3_ROM` is derived from them. -/
structure BuildParams.Legal (q : BuildParams) : Prop where
  params : q.toParams.Legal
  tickRate_pos : 0 < q.tickRate
  noteFreq_pos : ∀ n : Fin 13, 0 < q.noteFreq[n]
  derived : q.Derived

end Sys2Proof.Config
end

