-- ==== Sys2Proof/Machine/State.lean ====
section
/-! DEFINITION. The state: the elements of 10_state.md R25 to R41 (`Regs`), held twice as the spec's cycle needs
them (S at the cycle's start, S' as written so far), the flag masks of R50, the ports of R21 and R23 and the
configuration of R6. And the state after reset (70_reset_and_hazards.md R221). -/

namespace Sys2Proof.Machine

open Sys2Proof Sys2Proof.Config

/-- `DB_STATE[b]` (10_state.md R39). The pattern 3, which R39 calls unreachable, has no constructor (R43 allows a
model to build that in; log 11). -/
inductive DbState where
  | idle
  | check1
  | check2
deriving DecidableEq, Repr

/-- The 2-bit code STATUS shows (10_state.md R39). -/
def DbState.code : DbState → BitVec 2
  | .idle => 0
  | .check1 => 1
  | .check2 => 2

/-- The elements of one button (10_state.md R37 to R40). A level `true` is 1, the released level (41_input_bridge.md
R131). -/
structure ButtonRegs where
  bs1 : Bool
  bs2 : Bool
  bs3 : Bool
  edgeLatch : Bool
  dbState : DbState
  dbCnt : BitVec 16
deriving DecidableEq, Repr

/-- A button's elements after reset: released, nothing latched, IDLE (R221). -/
def ButtonRegs.reset : ButtonRegs :=
  { bs1 := true, bs2 := true, bs3 := true, edgeLatch := false, dbState := .idle, dbCnt := 0 }

/-- Every element of the block's state (10_state.md R20). -/
structure Regs where
  /-- CTRL.SRDY_SRC (R25): true selects the periodic poll. -/
  srdySrc : Bool
  /-- NOTE (R26). -/
  note : BitVec 12
  /-- OCTAVE (R27), two's complement. -/
  octave : BitVec 3
  /-- WAVEFORM (R28). -/
  waveform : BitVec 2
  /-- VOLUME (R29). -/
  volume : BitVec 7
  /-- PHASE (R30). -/
  phase : BitVec 32
  /-- OUT_CODE (R31). -/
  outCode : BitVec 12
  /-- LOAD (R32). -/
  load : Bool
  /-- TDIV (R33). -/
  tdiv : Bool
  /-- POLL_CNT (R34). -/
  pollCnt : BitVec 8
  /-- FLAGS (R36). -/
  flags : BitVec 5
  /-- Button 0, octave-up (R37 to R40, R42). -/
  up : ButtonRegs
  /-- Button 1, octave-down. -/
  dn : ButtonRegs
  /-- Button 2, waveform-cycle. -/
  wv : ButtonRegs
  /-- RS1 (R41). -/
  rs1 : Bool
  /-- RS2 (R41). -/
  rs2 : Bool
  /-- RS3 (R41). -/
  rs3 : Bool
deriving DecidableEq, Repr

/-- `ResetState` (70_reset_and_hazards.md R221). RS1..RS3 take the inactive level of the configuration. -/
def Regs.reset (c : Params) : Regs where
  srdySrc := true
  note := 0
  octave := 0
  waveform := 0
  volume := 20
  phase := 0
  outCode := 2048
  load := false
  tdiv := false
  pollCnt := 0
  flags := 0
  up := ButtonRegs.reset
  dn := ButtonRegs.reset
  wv := ButtonRegs.reset
  rs1 := c.srdyInactive
  rs2 := c.srdyInactive
  rs3 := c.srdyInactive

/-- The elements of button `b`. -/
def Regs.btn (r : Regs) : Button → ButtonRegs
  | .up => r.up
  | .dn => r.dn
  | .wv => r.wv

/-- The registers with button `b`'s elements replaced. -/
def Regs.setBtn (r : Regs) (b : Button) (v : ButtonRegs) : Regs :=
  match b with
  | .up => { r with up := v }
  | .dn => { r with dn := v }
  | .wv => { r with wv := v }

/-- The masks that R50 merges into FLAGS at the end of a cycle. All 0 when no rule has made one. -/
structure Masks where
  clr : BitVec 5
  hset : BitVec 5
  sset : BitVec 5
  bsetUp : BitVec 5
  bsetDn : BitVec 5
  bsetWv : BitVec 5
deriving DecidableEq, Repr

/-- No mask made (R50: "0 when the rule that makes them does not fire"). -/
def Masks.none : Masks := { clr := 0, hset := 0, sset := 0, bsetUp := 0, bsetDn := 0, bsetWv := 0 }

/-- The input ports of one cycle (10_state.md R21). -/
structure Ports where
  rst : Bool
  tick : Bool
  btnUp : Bool
  btnDn : Bool
  btnWv : Bool
  srdy : Bool
  busValid : Bool
  busWe : Bool
  busAddr : RegAddr
  busWdata : Word
deriving DecidableEq, Repr

/-- The raw line of button `b` (R42). -/
def Ports.btn (p : Ports) : Button → Bool
  | .up => p.btnUp
  | .dn => p.btnDn
  | .wv => p.btnWv

/-- The output ports of one cycle (10_state.md R23). -/
structure Outputs where
  rdata : Word
  dacCode : BitVec 12
  dacLoad : Bool
  flags : BitVec 5
  irq : Bool
deriving DecidableEq, Repr

/-- The outputs a cycle from the registers `r` drives when it reads nothing (10_state.md R44). -/
def Regs.outputs (r : Regs) : Outputs where
  rdata := 0
  dacCode := r.outCode
  dacLoad := r.load
  flags := r.flags
  irq := r.flags != 0

/-- The machine. Between two cycles `start = regs` and `masks` are 0. -/
structure State where
  /-- The configuration (00_scope.md R6). No step changes it. -/
  cfg : Params
  /-- The elements; within a cycle, S' as the operations performed so far have written it (00_scope.md R11). -/
  regs : Regs
  /-- The model's own: S, the elements at the start of the cycle (R11, R12; log 4). -/
  start : Regs
  /-- The model's own: the flag masks made so far in the cycle (R50; log 4). -/
  masks : Masks
  /-- The model's own: the input ports as sampled in this cycle, or the last one (R21; log 1, 3). -/
  ports : Ports
  /-- The model's own: the output ports as driven in this cycle, or the last one (R23; log 5). -/
  outs : Outputs
  /-- The model's own: the input ports of the cycles to come (log 1). -/
  inputs : List Ports
deriving DecidableEq, Repr

/-- Why a step stops with a fault. No constructor: "The block raises no exception, fault or error of any kind"
(60_exceptions.md R200). -/
inductive Fault where
deriving DecidableEq, Repr

/-- Why an operation has no meaning. -/
inductive Refusal where
  /-- The operation is not modelled. Raised by an arm of `exec` only; no arm raises it. Safe: nothing can be proved
  about what it does. -/
  | notModelled (mnemonic : String)
deriving DecidableEq, Repr

/-- Input ports on which nothing happens: no reset, no tick, no transaction, buttons released, the sensor line
inactive. What the pins carry before the first sampled cycle is the environment's; log 3. -/
def Ports.idle (c : Params) : Ports where
  rst := false
  tick := false
  btnUp := true
  btnDn := true
  btnWv := true
  srdy := c.srdyInactive
  busValid := false
  busWe := false
  busAddr := 0
  busWdata := 0

/-- The machine of configuration `c` right after a reset cycle (R221), no input placed. -/
def State.resetOf (c : Params) : State where
  cfg := c
  regs := Regs.reset c
  start := Regs.reset c
  masks := Masks.none
  ports := Ports.idle c
  outs := (Regs.reset c).outputs
  inputs := []

/-- The machine right after reset, with the spec's default parameters (R6) and the ROMs free. -/
def State.reset : State := State.resetOf Config.defaults

end Sys2Proof.Machine
end

