-- ==== Sys2Proof/Machine/Ops.lean ====
section
/-! DEFINITION. The named operations over the state: the writes `S'.NAME <- v` of 00_scope.md R11, one per element
(or per group that one rule writes), the read data the host interface drives (10_state.md R44), and the reset
(70_reset_and_hazards.md R220). The block takes no exception and returns from none (60_exceptions.md R200, R206): a
reset is its only change of the whole state. -/

namespace Sys2Proof.Machine

open Sys2Proof Sys2Proof.Config

/-- Change the elements being written for the next cycle. Nothing else changes. -/
def State.updRegs (s : State) (f : Regs → Regs) : State := { s with regs := f s.regs }

/-- `S'.CTRL.SRDY_SRC <- v`. -/
def State.writeSrdySrc (s : State) (v : Bool) : State := s.updRegs fun r => { r with srdySrc := v }
/-- `S'.NOTE <- v`. -/
def State.writeNote (s : State) (v : BitVec 12) : State := s.updRegs fun r => { r with note := v }
/-- `S'.OCTAVE <- v`. -/
def State.writeOctave (s : State) (v : BitVec 3) : State := s.updRegs fun r => { r with octave := v }
/-- `S'.WAVEFORM <- v`. -/
def State.writeWaveform (s : State) (v : BitVec 2) : State := s.updRegs fun r => { r with waveform := v }
/-- `S'.VOLUME <- v`. -/
def State.writeVolume (s : State) (v : BitVec 7) : State := s.updRegs fun r => { r with volume := v }
/-- `S'.PHASE <- v`. -/
def State.writePhase (s : State) (v : BitVec 32) : State := s.updRegs fun r => { r with phase := v }
/-- `S'.OUT_CODE <- v`. -/
def State.writeOutCode (s : State) (v : BitVec 12) : State := s.updRegs fun r => { r with outCode := v }
/-- `S'.LOAD <- v`. -/
def State.writeLoad (s : State) (v : Bool) : State := s.updRegs fun r => { r with load := v }
/-- `S'.TDIV <- v`. -/
def State.writeTdiv (s : State) (v : Bool) : State := s.updRegs fun r => { r with tdiv := v }
/-- `S'.POLL_CNT <- v`. -/
def State.writePollCnt (s : State) (v : BitVec 8) : State := s.updRegs fun r => { r with pollCnt := v }
/-- `S'.RS1 <- a; S'.RS2 <- b; S'.RS3 <- c` (41_input_bridge.md R141). -/
def State.writeRs (s : State) (a b c : Bool) : State := s.updRegs fun r => { r with rs1 := a, rs2 := b, rs3 := c }
/-- Every element of one button (41_input_bridge.md R140). -/
def State.writeButton (s : State) (b : Button) (v : ButtonRegs) : State := s.updRegs fun r => r.setBtn b v

/-- `rdata_o <- v` (10_state.md R44). No element changes. -/
def State.driveRdata (s : State) (v : Word) : State := { s with outs := { s.outs with rdata := v } }

/-- `S' = ResetState` (R220): every element takes its reset value whatever the state and the other inputs, no mask
is left, and `rdata_o = 0` (R222). -/
def State.enterReset (s : State) : State :=
  { s with regs := Regs.reset s.cfg, masks := Masks.none, outs := { s.outs with rdata := 0 } }

end Sys2Proof.Machine
end

