-- ==== Sys2Proof/Machine/Flags.lean ====
section
/-! DEFINITION. FLAGS and its masks (10_state.md R36, R50). Every rule that makes a mask writes FLAGS as R50 merges
it from the flags at the start of the cycle and all masks made so far, so that the order of the rules does not
matter and a set wins over a clear. -/

namespace Sys2Proof.Machine

open Sys2Proof

/-- Bit positions of FLAGS (10_state.md R36). -/
def octaveUpPressed : Nat := 0
/-- Bit 1 (R36). -/
def octaveDownPressed : Nat := 1
/-- Bit 2 (R36). -/
def waveformCyclePressed : Nat := 2
/-- Bit 3 (R36). -/
def sensorSampleReady : Nat := 3
/-- Bit 4 (R36). -/
def displayDirty : Nat := 4

/-- `(S.FLAGS AND NOT CLR) OR HSET OR SSET OR BSET[0] OR BSET[1] OR BSET[2]` (10_state.md R50). -/
def mergeFlags (flags : BitVec 5) (m : Masks) : BitVec 5 :=
  (flags &&& ~~~m.clr) ||| m.hset ||| m.sset ||| m.bsetUp ||| m.bsetDn ||| m.bsetWv

/-- Make the masks `m` and write FLAGS as they merge. -/
def State.withMasks (s : State) (m : Masks) : State :=
  { s with masks := m, regs := { s.regs with flags := mergeFlags s.start.flags m } }

/-- `CLR <- c; HSET <- h`: the masks of the host's transaction (42_host_interface.md R178, R180, R189). -/
def State.setHostMasks (s : State) (c h : BitVec 5) : State := s.withMasks { s.masks with clr := c, hset := h }

/-- `SSET <- m`: the mask of the sensor-ready source (41_input_bridge.md R143, R144). -/
def State.setSset (s : State) (m : BitVec 5) : State := s.withMasks { s.masks with sset := m }

/-- The masks with `BSET[b]` replaced. -/
def Masks.setBset (k : Masks) (b : Button) (m : BitVec 5) : Masks :=
  match b with
  | .up => { k with bsetUp := m }
  | .dn => { k with bsetDn := m }
  | .wv => { k with bsetWv := m }

/-- `BSET[b] <- m`: the mask of a button (41_input_bridge.md R137, R140). -/
def State.setBset (s : State) (b : Button) (m : BitVec 5) : State := s.withMasks (s.masks.setBset b m)

/-- The flags a sensor-ready source sets: `sensorSampleReady` and `displayDirty`, `0b1_1000` (41_input_bridge.md R143,
R144). -/
def sensorFlags : BitVec 5 := 0b11000

/-- The flags a confirmation of button `b` sets: `(1 << b) OR 0b1_0000` (41_input_bridge.md R137, R138). -/
def buttonFlags (b : Button) : BitVec 5 := ((1 : BitVec 5) <<< b.index) ||| 0b10000

end Sys2Proof.Machine
end

