-- ==== Sys2Proof/Machine/Buttons.lean ====
section
/-! DEFINITION. The button units (41_input_bridge.md sections 1 and 2): synchronizer (R130), edge detection (R132),
edge latch (R133), debounce state machine (R134 to R139) and the operations BTN_FALL (R140). -/

namespace Sys2Proof.Machine

open Sys2Proof Sys2Proof.Config

/-- `fall[b] = (S.BS3[b] = 1) and (S.BS2[b] = 0)` (R132). -/
def ButtonRegs.fall (b : ButtonRegs) : Bool := b.bs3 && !b.bs2

/-- What one transition of the debounce machine gives (R134): its next state and countdown, whether it takes the
edge latch (R133) and whether it is the confirmation (R137). -/
structure DebounceStep where
  dbState : DbState
  dbCnt : BitVec 16
  take : Bool
  confirm : Bool
deriving DecidableEq, Repr

/-- The transition of the debounce machine with `D = DEBOUNCE_CYCLES` (R135, R136, R137). Exactly one of them is
taken in a cycle. -/
def debounce (d : BitVec 16) (b : ButtonRegs) : DebounceStep :=
  match b.dbState with
  | .idle =>
    if b.edgeLatch then { dbState := .check1, dbCnt := d - 1, take := true, confirm := false }
    else { dbState := .idle, dbCnt := b.dbCnt, take := false, confirm := false }
  | .check1 =>
    if b.dbCnt ≠ 0 then { dbState := .check1, dbCnt := b.dbCnt - 1, take := false, confirm := false }
    else if b.bs2 = false then { dbState := .check2, dbCnt := d - 1, take := false, confirm := false }
    else { dbState := .idle, dbCnt := 0, take := false, confirm := false }
  | .check2 =>
    if b.dbCnt ≠ 0 then { dbState := .check2, dbCnt := b.dbCnt - 1, take := false, confirm := false }
    else if b.bs2 = false then { dbState := .idle, dbCnt := 0, take := true, confirm := true }
    else { dbState := .idle, dbCnt := 0, take := false, confirm := false }

/-- A button's elements after a cycle with the raw level `raw` and the edge `fall` (R130, R133, R140). -/
def nextButton (d : BitVec 16) (fall raw : Bool) (b : ButtonRegs) : ButtonRegs :=
  let m := debounce d b
  { bs1 := raw, bs2 := b.bs1, bs3 := b.bs2
    edgeLatch := fall || (b.edgeLatch && !m.take)
    dbState := m.dbState, dbCnt := m.dbCnt }

/-- `ButtonEffect(S, b, raw)` (R140) of a cycle in which the edge of button `b` is `fall`. -/
def buttonEffect (b : Button) (fall : Bool) (s : State) : State :=
  let d := s.cfg.debounceCycles
  let m := debounce d (s.start.btn b)
  (s.writeButton b (nextButton d fall (s.ports.btn b) (s.start.btn b))).setBset b
    (if m.confirm then buttonFlags b else 0)

/-- BTN_FALL_UP (R140): the octave-up unit in a cycle in which its synchronized line falls. -/
def execBtnFallUp (s : State) : Host.Outcome State Fault Refusal := .next (buttonEffect .up true s)
/-- BTN_FALL_DN (R140): the octave-down unit in a cycle in which its synchronized line falls. -/
def execBtnFallDn (s : State) : Host.Outcome State Fault Refusal := .next (buttonEffect .dn true s)
/-- BTN_FALL_WV (R140): the waveform-cycle unit in a cycle in which its synchronized line falls. -/
def execBtnFallWv (s : State) : Host.Outcome State Fault Refusal := .next (buttonEffect .wv true s)

/-- A button unit in a cycle without a falling edge: "the rest of the logic runs in every cycle with rst = 0"
(R140). -/
def quietButton (b : Button) (s : State) : State := buttonEffect b false s

end Sys2Proof.Machine
end

