-- ==== Sys2Proof/Machine/Dds.lean ====
section
/-! DEFINITION. The DDS engine (40_dds_engine.md): when a sample happens (R101), the six steps of a sample (R103 to
R110) and the operation TICK (R111). Every function reads S, the registers at the start of the cycle (R102). -/

namespace Sys2Proof.Machine

open Sys2Proof Sys2Proof.Config

/-- The rounded note index as a number: `(min(NOTE, 0xC00) + 0x80) >> 8` (R103). -/
def noteIndexNat (note : BitVec 12) : Nat := (min note.toNat noteMax + 0x80) >>> 8

theorem noteIndexNat_lt (note : BitVec 12) : noteIndexNat note < noteCount := by
  unfold noteIndexNat noteMax noteCount
  rw [Nat.shiftRight_eq_div_pow]
  omega

/-- Step 1, note selection: an index of the tuning ROM, 0..12 (R103). -/
def noteIndex (note : BitVec 12) : Fin 13 := ⟨noteIndexNat note, noteIndexNat_lt note⟩

/-- Step 1, octave: `sh = sint_3(OCTAVE) + 3` (R104), 0..6 in every reachable state. -/
def octaveShift (octave : BitVec 3) : Int := octave.toInt + 3

/-- `IncRom(idx) * 2^sh`. A negative `sh` (OCTAVE = -4, unreachable) "would be a right shift"
(93_implementation_defined.md section 3; log 10). -/
def shiftIncrement (word : Nat) (sh : Int) : Nat :=
  if 0 ≤ sh then word * 2 ^ sh.toNat else word >>> (-sh).toNat

/-- Step 2, phase increment, in units of `2^-27` table entries (R105). -/
def phaseIncrement (c : Params) (r : Regs) : Nat :=
  shiftIncrement (c.inc3.get (noteIndex r.note)).toNat (octaveShift r.octave)

/-- `k = PHASE[31:27]` (R106). -/
def tableIndex (phase : BitVec 32) : BitVec 5 := phase.extractLsb' 27 5

/-- `WaveRom(w, k)` as a bit pattern (R11). Outside the ROM (unreachable, R43) a free value of the indices (log 9). -/
def waveSample (c : Params) (w : BitVec 2) (k : BitVec 5) : Sample :=
  if h : w.toNat < 3 ∧ k.toNat < 20 then (c.wave.get ⟨w.toNat, h.1⟩).get ⟨k.toNat, h.2⟩
  else Config.waveUndefined w k

/-- Step 3, lookup: the signed sample at the current phase (R106). -/
def lookup (c : Params) (r : Regs) : Int := (waveSample c r.waveform (tableIndex r.phase)).toInt

/-- Step 4, scale: `trunc_div(s * VOLUME, 100)`, rounding toward zero (R107). -/
def scale (s : Int) (volume : BitVec 7) : Int := (s * volume.toNat).tdiv 100

/-- Step 4, offset and clamp: `clamp(q + 2048, 0, 4095)` (R108). -/
def outputCode (q : Int) : BitVec 12 := BitVec.ofInt 12 (clamp (q + midScale) 0 fullScale)

/-- The code a sample delivers (R106 to R108). -/
def sampleCode (c : Params) (r : Regs) : BitVec 12 := outputCode (scale (lookup c r) r.volume)

/-- Step 6, advance: `(PHASE + inc) mod PHASE_MOD`, the sum exact (R110). -/
def nextPhase (c : Params) (r : Regs) : BitVec 32 :=
  BitVec.ofNat 32 ((r.phase.toNat + phaseIncrement c r) % phaseMod)

/-- `sample_now` of R101. -/
def sampleNow (c : Params) (r : Regs) (tick : Bool) : Bool :=
  tick &&
    match c.cadence with
    | .one => true
    | .two => !r.tdiv

/-- What a tick does to the cadence divider (R101): with `CADENCE = 1` it stays, with `CADENCE = 2` it toggles. -/
def State.stepDivider (s : State) (tick : Bool) : State :=
  match s.cfg.cadence with
  | .one => s
  | .two => if tick then s.writeTdiv (!s.start.tdiv) else s

/-- `DdsEffect(S, tick)` (R111). -/
def ddsEffect (tick : Bool) (s : State) : State :=
  let now := sampleNow s.cfg s.start tick
  let s := (s.stepDivider tick).writeLoad now
  if now then (s.writeOutCode (sampleCode s.cfg s.start)).writePhase (nextPhase s.cfg s.start) else s

/-- TICK (R111): the DDS engine's part of a cycle with `tick_i = 1`. -/
def execTick (s : State) : Host.Outcome State Fault Refusal := .next (ddsEffect true s)

/-- The DDS engine's part of a cycle without a tick: LOAD returns to 0 (R109, R112). -/
def quietDds (s : State) : State := ddsEffect false s

end Sys2Proof.Machine
end

