-- ==== Sys2Proof/Machine/Sensor.lean ====
section
/-! DEFINITION. The sensor-ready unit and the flag multiplexer (41_input_bridge.md section 3): synchronizer (R141),
edge source (R143), periodic poll (R144, R145). -/

namespace Sys2Proof.Machine

open Sys2Proof Sys2Proof.Config

/-- A sensor level normalised to the active level: true is active (`RS XOR NOT SRDY_ACTIVE_HIGH`,
spec/opcode_table.json row SRDY_EDGE). -/
def sensorActive (c : Params) (level : Bool) : Bool := xor level (!c.srdyActiveHigh)

/-- `redge`: RS3 inactive and RS2 active (R141). -/
def readyEdge (c : Params) (r : Regs) : Bool := !sensorActive c r.rs3 && sensorActive c r.rs2

/-- `S'.RS1 <- I.srdy_i; S'.RS2 <- S.RS1; S'.RS3 <- S.RS2` (R141), in every cycle. -/
def State.shiftSensor (s : State) : State := s.writeRs s.ports.srdy s.start.rs1 s.start.rs2

/-- The poll counter's step on a tick in poll mode (R144): the `POLL_PERIOD`-th tick sets the flags and the count
starts again. -/
def State.pollStep (s : State) : State :=
  if s.start.pollCnt + 1 = s.cfg.pollPeriod then (s.writePollCnt 0).setSset sensorFlags
  else s.writePollCnt (s.start.pollCnt + 1)

/-- The sensor unit in a cycle without SRDY_EDGE and without POLL_TICK: the synchronizer shifts (R141), and in edge
mode the poll counter is held at 0 (R145). -/
def quietSensor (s : State) : State :=
  if s.start.srdySrc then s.shiftSensor else s.shiftSensor.writePollCnt 0

/-- SRDY_EDGE (R143): the sensor unit in an edge-mode cycle in which the synchronized line becomes active. The poll
counter is held at 0 as in every edge-mode cycle (R145). -/
def execSrdyEdge (s : State) : Host.Outcome State Fault Refusal :=
  .next ((s.shiftSensor.writePollCnt 0).setSset sensorFlags)

/-- POLL_TICK (R144): the sensor unit in a poll-mode cycle with a tick. -/
def execPollTick (s : State) : Host.Outcome State Fault Refusal := .next s.shiftSensor.pollStep

end Sys2Proof.Machine
end

