-- ==== Sys2Proof/Machine/Cycle.lean ====
section
/-! DEFINITION. One clock cycle around its operations (10_state.md R50): sampling the ports and fixing S, which
operations the cycle's ports and state present (30_encoding.md R80, R97), and the clock edge at its end. Also how a
word of the opcode table is placed so that the next cycle presents it. -/

namespace Sys2Proof.Machine

open Sys2Proof Sys2Proof.Config

/-- The ports of a cycle for which nothing is listed: no reset, no tick, no transaction, and "unlisted button and
sensor lines keep their previous level" (30_encoding.md R98, 10_state.md R52; log 1). -/
def Ports.hold (p : Ports) : Ports :=
  { p with rst := false, tick := false, busValid := false, busWe := false, busAddr := 0, busWdata := 0 }

/-- The ports the next cycle samples: the first of the inputs to come, or the lines held. -/
def State.nextPorts (s : State) : Ports :=
  match s.inputs with
  | p :: _ => p
  | [] => s.ports.hold

/-- The start of a cycle (00_scope.md R12): the ports are sampled (10_state.md R21), S is fixed, no mask is made yet
and the outputs are driven from S (R44), `rdata_o` being 0 until a read drives it. -/
def beginCycle (s : State) : State :=
  { s with
    ports := s.nextPorts
    inputs := s.inputs.tail
    start := s.regs
    masks := Masks.none
    outs := s.regs.outputs }

/-- The clock edge: S' becomes the state at the start of the next cycle, and the masks are gone (10_state.md R20:
nothing but the elements persists). -/
def endCycle (s : State) : State := { s with start := s.regs, masks := Masks.none }

/-- The units of the block (00_scope.md R2, R5). -/
inductive HwUnit where
  | host
  | dds
  | sensor
  | button (b : Button)
deriving DecidableEq, Repr

/-- What one unit does in a cycle: an operation that its ports present, or its quiet logic. -/
inductive CycleOp where
  | op (i : Instr)
  | quiet (u : HwUnit)
deriving DecidableEq, Repr

/-- The quiet logic of a unit: what it does in a cycle in which no operation of its own takes place. -/
def quietUnit : HwUnit → State → State
  | .host, s => s
  | .dds, s => quietDds s
  | .sensor, s => quietSensor s
  | .button b, s => quietButton b s

/-- The transaction word on the bus ports (30_encoding.md R81). -/
def Ports.transaction (p : Ports) : HostWord := hostWord p.busWe p.busAddr p.busWdata

/-- The bits of PORTVEC(rst). -/
def rstBits (s : State) : OpWord := .rst (BitVec.ofBool s.ports.rst)
/-- What the host presents: its transaction word when `bus_valid = 1`, else PORTVEC(rst, bus_valid) (R80). -/
def hostBits (s : State) : OpWord :=
  if s.ports.busValid then .host37 s.ports.transaction
  else .bus (BitVec.ofBool s.ports.rst ++ BitVec.ofBool s.ports.busValid)
/-- The bits of PORTVEC(rst, tick_i). -/
def tickBits (s : State) : OpWord := .tick (BitVec.ofBool s.ports.rst ++ BitVec.ofBool s.ports.tick)
/-- The bits of PORTVEC(rst, BS3[b], BS2[b]). -/
def btnBits (b : Button) (s : State) : OpWord :=
  .btn b (BitVec.ofBool s.ports.rst ++ BitVec.ofBool (s.start.btn b).bs3 ++ BitVec.ofBool (s.start.btn b).bs2)
/-- The bits of PORTVEC(rst, CTRL.SRDY_SRC, RS3, RS2), levels normalised. -/
def srdyBits (s : State) : OpWord :=
  .srdy (BitVec.ofBool s.ports.rst ++ BitVec.ofBool s.start.srdySrc
    ++ BitVec.ofBool (sensorActive s.cfg s.start.rs3) ++ BitVec.ofBool (sensorActive s.cfg s.start.rs2))
/-- The bits of PORTVEC(rst, CTRL.SRDY_SRC, tick_i). -/
def pollBits (s : State) : OpWord :=
  .poll (BitVec.ofBool s.ports.rst ++ BitVec.ofBool s.start.srdySrc ++ BitVec.ofBool s.ports.tick)

/-- A unit's operation from its bits, its quiet logic where they are none. -/
def unitOp (u : HwUnit) (w : OpWord) : CycleOp :=
  match decode w with
  | .ok i => .op i
  | .error _ => .quiet u

/-- The sensor unit's operation: the two sources exclude each other (41_input_bridge.md R142). -/
def sensorOp (s : State) : CycleOp :=
  match decode (srdyBits s) with
  | .ok i => .op i
  | .error _ => unitOp .sensor (pollBits s)

/-- Everything a cycle does, given its ports and S (10_state.md R50): RESET alone when `rst = 1`
(70_reset_and_hazards.md R220), else one transaction or NOP, the DDS engine, the sensor unit and the three buttons.
Their order does not matter (60_exceptions.md R205). -/
def operations (s : State) : List CycleOp :=
  match decode (rstBits s) with
  | .ok i => [.op i]
  | .error _ =>
    [unitOp .host (hostBits s), unitOp .dds (tickBits s), sensorOp s, unitOp (.button .up) (btnBits .up s),
     unitOp (.button .dn) (btnBits .dn s), unitOp (.button .wv) (btnBits .wv s)]

/-- The machine with the next cycle's ports `p` placed before the inputs to come. -/
def State.pushPorts (s : State) (p : Ports) : State := { s with inputs := p :: s.inputs }

/-- The machine whose next cycle presents the bits `w`: the named ports are placed for that cycle, and the state bits
that a port event's format names are set. Everything else is as it was (log 2, log 22). -/
def State.present (s : State) : OpWord → State
  | .host37 w =>
    s.pushPorts { s.ports.hold with
      busValid := true, busWe := wField w, busAddr := addrField w, busWdata := dataField w }
  | .bus v => s.pushPorts { s.ports.hold with rst := v.getLsbD 1, busValid := v.getLsbD 0 }
  | .tick v => s.pushPorts { s.ports.hold with rst := v.getLsbD 1, tick := v.getLsbD 0 }
  | .btn b v =>
    (s.updRegs fun r => r.setBtn b { r.btn b with bs3 := v.getLsbD 1, bs2 := v.getLsbD 0 }).pushPorts
      { s.ports.hold with rst := v.getLsbD 2 }
  | .srdy v =>
    (s.updRegs fun r =>
      { r with
        srdySrc := v.getLsbD 2
        rs3 := xor (v.getLsbD 1) (!s.cfg.srdyActiveHigh)
        rs2 := xor (v.getLsbD 0) (!s.cfg.srdyActiveHigh) }).pushPorts { s.ports.hold with rst := v.getLsbD 3 }
  | .poll v =>
    (s.updRegs fun r => { r with srdySrc := v.getLsbD 1 }).pushPorts
      { s.ports.hold with rst := v.getLsbD 2, tick := v.getLsbD 0 }
  | .rst v => s.pushPorts { s.ports.hold with rst := v.getLsbD 0 }

/-- Place a word of the opcode table so that the next cycle presents it; a word of no format changes nothing. -/
def State.placeTableWord (s : State) (nbits w : Nat) : State :=
  match tableWord nbits w with
  | some ow => s.present ow
  | none => s

end Sys2Proof.Machine
end

