-- ==== Sys2Proof/Machine/Control.lean ====
section
/-! DEFINITION. NOP (42_host_interface.md R189) and RESET (70_reset_and_hazards.md R220). -/

namespace Sys2Proof.Machine

open Sys2Proof

/-- NOP (R189): `CLR <- 0; HSET <- 0; rdata_o <- 0`. -/
def execNop (s : State) : Host.Outcome State Fault Refusal := .next ((s.setHostMasks 0 0).driveRdata 0)

/-- RESET (R220). -/
def execReset (s : State) : Host.Outcome State Fault Refusal := .next s.enterReset

end Sys2Proof.Machine
end

