-- ==== Sys2Proof/Machine/Operands.lean ====
section
/-! DEFINITION. The operand forms: how a write reads DATA (30_encoding.md R85 to R92) and what a read returns (R85 to
R95). -/

namespace Sys2Proof.Machine

open Sys2Proof Sys2Proof.Config

/-! ## Write data -/

/-- CTRL data: `DATA[0]` (R85). -/
def ctrlOfData (data : Word) : Bool := data.getLsbD 0

/-- NOTE data: a signed number with 8 fraction bits, clamped to 0.0 .. 12.0 (R86). -/
def noteOfData (data : Word) : BitVec 12 := BitVec.ofInt 12 (clamp data.toInt 0 noteMax)

/-- OCTAVE data: a signed number, clamped to -3 .. 3 (R87). -/
def octaveOfData (data : Word) : BitVec 3 := BitVec.ofInt 3 (clamp data.toInt octMin octMax)

/-- WAVEFORM data: a signed number, clamped to 0 .. 2 (R88). -/
def waveformOfData (data : Word) : BitVec 2 := BitVec.ofInt 2 (clamp data.toInt 0 (waveCount - 1))

/-- VOLUME data: a signed number, clamped to 0 .. 100 (R89). -/
def volumeOfData (data : Word) : BitVec 7 := BitVec.ofInt 7 (clamp data.toInt 0 volMax)

/-- The octave a command leaves: the net of the two octave bits, "applied once with one saturation"
(42_host_interface.md R175). -/
def octaveStep (octave : BitVec 3) (u d : Bool) : BitVec 3 :=
  BitVec.ofInt 3 (clamp (octave.toInt + u.toInt - d.toInt) octMin octMax)

/-- The waveform a command leaves: `(S.WAVEFORM + DATA[2]) mod 3` (42_host_interface.md R175). -/
def waveStep (waveform : BitVec 2) (w : Bool) : BitVec 2 := BitVec.ofNat 2 ((waveform.toNat + w.toNat) % waveCount)

/-- The clear mask of a FLAGS write: `DATA[4:0]` (R91). -/
def clearMaskOfData (data : Word) : BitVec 5 := data.extractLsb' 0 5

/-- The set mask of a FLAGS_SET write: `DATA[4] << 4` (R92, 42_host_interface.md R180). -/
def setMaskOfData (data : Word) : BitVec 5 := (BitVec.ofBool (data.getLsbD 4)).zeroExtend 5 <<< 4

/-! ## Read data, computed from the registers at the start of the cycle (42_host_interface.md R160) -/

/-- `{31'b0, SRDY_SRC}` (R85, R161). -/
def readCtrl (r : Regs) : Word := (BitVec.ofBool r.srdySrc).zeroExtend 32
/-- `zext_32(NOTE)` (R86, R163). -/
def readNote (r : Regs) : Word := r.note.zeroExtend 32
/-- `sext_32(OCTAVE)` (R87, R165). -/
def readOctave (r : Regs) : Word := r.octave.signExtend 32
/-- `zext_32(WAVEFORM)` (R88, R167). -/
def readWaveform (r : Regs) : Word := r.waveform.zeroExtend 32
/-- `zext_32(VOLUME)` (R89, R169). -/
def readVolume (r : Regs) : Word := r.volume.zeroExtend 32
/-- `zext_32(FLAGS)` (R91, R177). -/
def readFlags (r : Regs) : Word := r.flags.zeroExtend 32
/-- PHASE whole (R93, R181). -/
def readPhase (r : Regs) : Word := r.phase
/-- `zext_32(OUT_CODE)` (R94, R183). -/
def readOutCode (r : Regs) : Word := r.outCode.zeroExtend 32
/-- The STATUS layout (R95, R185): `{12'b0, RS2, BS2[2], BS2[1], BS2[0], POLL_CNT, 1'b0, TDIV, DB_STATE[2],
DB_STATE[1], DB_STATE[0]}`. -/
def readStatus (r : Regs) : Word :=
  0#12 ++ BitVec.ofBool r.rs2 ++ BitVec.ofBool r.wv.bs2 ++ BitVec.ofBool r.dn.bs2 ++ BitVec.ofBool r.up.bs2
    ++ r.pollCnt ++ 0#1 ++ BitVec.ofBool r.tdiv ++ r.wv.dbState.code ++ r.dn.dbState.code ++ r.up.dbState.code

/-- What a read of an address returns (20_memory.md R66): write-only and reserved addresses read 0. -/
def hostRead (addr : RegAddr) (r : Regs) : Word :=
  match addr.toNat with
  | 0x0 => readCtrl r
  | 0x1 => readNote r
  | 0x2 => readOctave r
  | 0x3 => readWaveform r
  | 0x4 => readVolume r
  | 0x6 => readFlags r
  | 0x8 => readPhase r
  | 0x9 => readOutCode r
  | 0xA => readStatus r
  | _ => 0

end Sys2Proof.Machine
end

