-- ==== Sys2Proof/Machine/HostRead.lean ====
section
/-! DEFINITION. The read transactions (42_host_interface.md): each drives `rdata_o` from S and writes no state
(R160). -/

namespace Sys2Proof.Machine

open Sys2Proof

/-- RD CTRL (R161). -/
def execRdCtrl (s : State) : Host.Outcome State Fault Refusal := .next (s.driveRdata (readCtrl s.start))
/-- RD NOTE (R163). -/
def execRdNote (s : State) : Host.Outcome State Fault Refusal := .next (s.driveRdata (readNote s.start))
/-- RD OCTAVE (R165). -/
def execRdOctave (s : State) : Host.Outcome State Fault Refusal := .next (s.driveRdata (readOctave s.start))
/-- RD WAVEFORM (R167). -/
def execRdWaveform (s : State) : Host.Outcome State Fault Refusal := .next (s.driveRdata (readWaveform s.start))
/-- RD VOLUME (R169). -/
def execRdVolume (s : State) : Host.Outcome State Fault Refusal := .next (s.driveRdata (readVolume s.start))
/-- RD CMD (R171): no storage, reads 0. -/
def execRdCmd (s : State) : Host.Outcome State Fault Refusal := .next (s.driveRdata 0)
/-- RD FLAGS (R177): clears nothing. -/
def execRdFlags (s : State) : Host.Outcome State Fault Refusal := .next (s.driveRdata (readFlags s.start))
/-- RD FLAGS_SET (R179): reads 0. -/
def execRdFlagsSet (s : State) : Host.Outcome State Fault Refusal := .next (s.driveRdata 0)
/-- RD PHASE (R181). -/
def execRdPhase (s : State) : Host.Outcome State Fault Refusal := .next (s.driveRdata (readPhase s.start))
/-- RD OUT_CODE (R183). -/
def execRdOutCode (s : State) : Host.Outcome State Fault Refusal := .next (s.driveRdata (readOutCode s.start))
/-- RD STATUS (R185). -/
def execRdStatus (s : State) : Host.Outcome State Fault Refusal := .next (s.driveRdata (readStatus s.start))
/-- RD RSVD11 (R187). -/
def execRdRsvd11 (s : State) : Host.Outcome State Fault Refusal := .next (s.driveRdata 0)
/-- RD RSVD12 (R187). -/
def execRdRsvd12 (s : State) : Host.Outcome State Fault Refusal := .next (s.driveRdata 0)
/-- RD RSVD13 (R187). -/
def execRdRsvd13 (s : State) : Host.Outcome State Fault Refusal := .next (s.driveRdata 0)
/-- RD RSVD14 (R187). -/
def execRdRsvd14 (s : State) : Host.Outcome State Fault Refusal := .next (s.driveRdata 0)
/-- RD RSVD15 (R187). -/
def execRdRsvd15 (s : State) : Host.Outcome State Fault Refusal := .next (s.driveRdata 0)

end Sys2Proof.Machine
end

