-- ==== Sys2Proof/Machine/HostWrite.lean ====
section
/-! DEFINITION. The write transactions (42_host_interface.md): each writes at most one register (a command: the two it
commands) or makes a flag mask, and `rdata_o = 0` (R160). -/

namespace Sys2Proof.Machine

open Sys2Proof

/-- WR CTRL (R162). -/
def execWrCtrl (data : Word) (s : State) : Host.Outcome State Fault Refusal :=
  .next ((s.writeSrdySrc (ctrlOfData data)).driveRdata 0)
/-- WR NOTE (R164): out-of-range values saturate. -/
def execWrNote (data : Word) (s : State) : Host.Outcome State Fault Refusal :=
  .next ((s.writeNote (noteOfData data)).driveRdata 0)
/-- WR OCTAVE (R166): out-of-range values saturate. -/
def execWrOctave (data : Word) (s : State) : Host.Outcome State Fault Refusal :=
  .next ((s.writeOctave (octaveOfData data)).driveRdata 0)
/-- WR WAVEFORM (R168): out-of-range values saturate. -/
def execWrWaveform (data : Word) (s : State) : Host.Outcome State Fault Refusal :=
  .next ((s.writeWaveform (waveformOfData data)).driveRdata 0)
/-- WR VOLUME (R170): out-of-range values saturate. -/
def execWrVolume (data : Word) (s : State) : Host.Outcome State Fault Refusal :=
  .next ((s.writeVolume (volumeOfData data)).driveRdata 0)

/-- The effect of the command bits `u` (octave up), `d` (octave down), `w` (waveform cycle), a read-modify-write of S
(R175, 20_memory.md R72). -/
def command (u d w : Bool) (s : State) : State :=
  ((s.writeOctave (octaveStep s.start.octave u d)).writeWaveform (waveStep s.start.waveform w)).driveRdata 0

/-- WR CMD (R175, R176): `DATA[2:0] = {Wv, Dn, U}`. -/
def execWrCmd (data : Word) (s : State) : Host.Outcome State Fault Refusal :=
  .next (command (data.getLsbD 0) (data.getLsbD 1) (data.getLsbD 2) s)
/-- OCT_UP (R172): the octave moves up by one, saturating at 3. -/
def execWrCmdOctUp (s : State) : Host.Outcome State Fault Refusal :=
  .next ((s.writeOctave (octaveStep s.start.octave true false)).driveRdata 0)
/-- OCT_DOWN (R173): the octave moves down by one, saturating at -3. -/
def execWrCmdOctDown (s : State) : Host.Outcome State Fault Refusal :=
  .next ((s.writeOctave (octaveStep s.start.octave false true)).driveRdata 0)
/-- WAVE_NEXT (R174): the waveform advances cyclically. -/
def execWrCmdWaveNext (s : State) : Host.Outcome State Fault Refusal :=
  .next ((s.writeWaveform (waveStep s.start.waveform true)).driveRdata 0)

/-- WR FLAGS (R178): write-one-to-clear. -/
def execWrFlags (data : Word) (s : State) : Host.Outcome State Fault Refusal :=
  .next ((s.setHostMasks (clearMaskOfData data) 0).driveRdata 0)
/-- WR FLAGS_SET (R180): write-one-to-set of `displayDirty`. -/
def execWrFlagsSet (data : Word) (s : State) : Host.Outcome State Fault Refusal :=
  .next ((s.setHostMasks 0 (setMaskOfData data)).driveRdata 0)

/-- WR PHASE (R182): no effect; the data is ignored. -/
def execWrPhase (_data : Word) (s : State) : Host.Outcome State Fault Refusal := .next (s.driveRdata 0)
/-- WR OUT_CODE (R184): no effect; the data is ignored. -/
def execWrOutCode (_data : Word) (s : State) : Host.Outcome State Fault Refusal := .next (s.driveRdata 0)
/-- WR STATUS (R186): no effect; the data is ignored. -/
def execWrStatus (_data : Word) (s : State) : Host.Outcome State Fault Refusal := .next (s.driveRdata 0)
/-- WR RSVD11 (R188): no effect. -/
def execWrRsvd11 (s : State) : Host.Outcome State Fault Refusal := .next (s.driveRdata 0)
/-- WR RSVD12 (R188): no effect. -/
def execWrRsvd12 (s : State) : Host.Outcome State Fault Refusal := .next (s.driveRdata 0)
/-- WR RSVD13 (R188): no effect. -/
def execWrRsvd13 (s : State) : Host.Outcome State Fault Refusal := .next (s.driveRdata 0)
/-- WR RSVD14 (R188): no effect. -/
def execWrRsvd14 (s : State) : Host.Outcome State Fault Refusal := .next (s.driveRdata 0)
/-- WR RSVD15 (R188): no effect. -/
def execWrRsvd15 (s : State) : Host.Outcome State Fault Refusal := .next (s.driveRdata 0)

end Sys2Proof.Machine
end

