-- ==== Sys2Proof/Machine/Dispatch.lean ====
section
/-! DEFINITION. The dispatch: one arm per operation, each a direct call of its meaning. -/

namespace Sys2Proof.Machine

open Sys2Proof

/-- What one operation does in a cycle: it reads S (`start`) and the ports, and writes S' (`regs`), the flag masks and
`rdata_o`. -/
def exec (i : Instr) (s : State) : Host.Outcome State Fault Refusal :=
  match i with
  | .rdCtrl => Sys2Proof.Machine.execRdCtrl s
  | .wrCtrl data => Sys2Proof.Machine.execWrCtrl data s
  | .rdNote => Sys2Proof.Machine.execRdNote s
  | .wrNote data => Sys2Proof.Machine.execWrNote data s
  | .rdOctave => Sys2Proof.Machine.execRdOctave s
  | .wrOctave data => Sys2Proof.Machine.execWrOctave data s
  | .rdWaveform => Sys2Proof.Machine.execRdWaveform s
  | .wrWaveform data => Sys2Proof.Machine.execWrWaveform data s
  | .rdVolume => Sys2Proof.Machine.execRdVolume s
  | .wrVolume data => Sys2Proof.Machine.execWrVolume data s
  | .rdCmd => Sys2Proof.Machine.execRdCmd s
  | .wrCmd data => Sys2Proof.Machine.execWrCmd data s
  | .rdFlags => Sys2Proof.Machine.execRdFlags s
  | .wrFlags data => Sys2Proof.Machine.execWrFlags data s
  | .rdFlagsSet => Sys2Proof.Machine.execRdFlagsSet s
  | .wrFlagsSet data => Sys2Proof.Machine.execWrFlagsSet data s
  | .rdPhase => Sys2Proof.Machine.execRdPhase s
  | .wrPhase data => Sys2Proof.Machine.execWrPhase data s
  | .rdOutCode => Sys2Proof.Machine.execRdOutCode s
  | .wrOutCode data => Sys2Proof.Machine.execWrOutCode data s
  | .rdStatus => Sys2Proof.Machine.execRdStatus s
  | .wrStatus data => Sys2Proof.Machine.execWrStatus data s
  | .rdRsvd11 => Sys2Proof.Machine.execRdRsvd11 s
  | .wrRsvd11 => Sys2Proof.Machine.execWrRsvd11 s
  | .rdRsvd12 => Sys2Proof.Machine.execRdRsvd12 s
  | .wrRsvd12 => Sys2Proof.Machine.execWrRsvd12 s
  | .rdRsvd13 => Sys2Proof.Machine.execRdRsvd13 s
  | .wrRsvd13 => Sys2Proof.Machine.execWrRsvd13 s
  | .rdRsvd14 => Sys2Proof.Machine.execRdRsvd14 s
  | .wrRsvd14 => Sys2Proof.Machine.execWrRsvd14 s
  | .rdRsvd15 => Sys2Proof.Machine.execRdRsvd15 s
  | .wrRsvd15 => Sys2Proof.Machine.execWrRsvd15 s
  | .wrCmdOctUp => Sys2Proof.Machine.execWrCmdOctUp s
  | .wrCmdOctDown => Sys2Proof.Machine.execWrCmdOctDown s
  | .wrCmdWaveNext => Sys2Proof.Machine.execWrCmdWaveNext s
  | .nop => Sys2Proof.Machine.execNop s
  | .tick => Sys2Proof.Machine.execTick s
  | .btnFallUp => Sys2Proof.Machine.execBtnFallUp s
  | .btnFallDn => Sys2Proof.Machine.execBtnFallDn s
  | .btnFallWv => Sys2Proof.Machine.execBtnFallWv s
  | .srdyEdge => Sys2Proof.Machine.execSrdyEdge s
  | .pollTick => Sys2Proof.Machine.execPollTick s
  | .reset => Sys2Proof.Machine.execReset s

end Sys2Proof.Machine
end

