-- ==== Sys2Proof/Machine/Step.lean ====
section
/-! DEFINITION. One step of the machine: one clock cycle (10_state.md R50). -/

namespace Sys2Proof.Machine

open Sys2Proof

/-- What one unit does, an operation by its meaning. -/
def runOp : CycleOp → State → Host.Outcome State Fault Refusal
  | .op i, s => exec i s
  | .quiet u, s => .next (quietUnit u s)

/-- The units' operations of one cycle, one after the other; each reads S, so no one sees what another wrote. -/
def runOps : List CycleOp → State → Host.Outcome State Fault Refusal
  | [], s => .next s
  | c :: cs, s =>
    match runOp c s with
    | .next t => runOps cs t
    | .fault r => .fault r
    | .refused r => .refused r

/-- One clock cycle: sample, do everything the ports and S present, clock edge. -/
def step (s : State) : Host.Outcome State Fault Refusal :=
  match runOps (operations (beginCycle s)) (beginCycle s) with
  | .next t => .next (endCycle t)
  | .fault r => .fault r
  | .refused r => .refused r

/-- The machine whose next cycle presents a word of the opcode table (log 2, log 15). -/
def State.withFetchWord (s : State) (nbits w : Nat) : State := s.placeTableWord nbits w

end Sys2Proof.Machine
end

