-- ==== Sys2Proof/Machine/HostProgram.lean ====
section
/-! DEFINITION. Host programs as the spec writes them (30_encoding.md R98) and its pseudo-instructions (R99), as
abstract syntax: a program is a list of statements, one a cycle, and assembles to the ports of those cycles. This is
the outside of the block: how a list of transactions and port activity becomes `State.inputs` (log 2). -/

namespace Sys2Proof.Machine

open Sys2Proof Sys2Proof.Config

/-- The names of the host register space (20_memory.md R66, 30_encoding.md R98). -/
inductive RegName where
  | ctrl
  | note
  | octave
  | waveform
  | volume
  | cmd
  | flags
  | flagsSet
  | phase
  | outCode
  | status
  /-- `RSVD<a>` with `a = 11 + n`. -/
  | rsvd (n : Fin 5)
deriving DecidableEq, Repr

/-- The address of a register (20_memory.md R66). -/
def RegName.addr : RegName → RegAddr
  | .ctrl => 0x0
  | .note => 0x1
  | .octave => 0x2
  | .waveform => 0x3
  | .volume => 0x4
  | .cmd => 0x5
  | .flags => 0x6
  | .flagsSet => 0x7
  | .phase => 0x8
  | .outCode => 0x9
  | .status => 0xA
  | .rsvd n => BitVec.ofNat 4 (11 + n.val)

/-- What a statement has the host present (R98). -/
inductive HostAct where
  | rd (r : RegName)
  /-- `DATA = uint_32(<expr>)`. -/
  | wr (r : RegName) (v : Int)
  | nop
deriving DecidableEq, Repr

/-- A port setting in a statement's brackets, for its cycle (R98). -/
inductive PortSetting where
  | tick
  | btn (b : Button) (level : Bool)
  | srdy (level : Bool)
  | rst
deriving DecidableEq, Repr

/-- One statement, one cycle (R98). -/
structure Stmt where
  act : HostAct
  settings : List PortSetting := []
deriving DecidableEq, Repr

/-- The ports with one setting made. -/
def PortSetting.apply (p : Ports) : PortSetting → Ports
  | .tick => { p with tick := true }
  | .btn .up level => { p with btnUp := level }
  | .btn .dn level => { p with btnDn := level }
  | .btn .wv level => { p with btnWv := level }
  | .srdy level => { p with srdy := level }
  | .rst => { p with rst := true }

/-- The ports with the transaction of an act on the bus. -/
def HostAct.apply (p : Ports) : HostAct → Ports
  | .rd r => { p with busValid := true, busWe := false, busAddr := r.addr, busWdata := 0 }
  | .wr r v => { p with busValid := true, busWe := true, busAddr := r.addr, busWdata := BitVec.ofInt 32 v }
  | .nop => p

/-- The ports of a statement's cycle: "unlisted button and sensor lines keep their previous level, and tick_i and rst
are 0 unless listed" (R98). -/
def Stmt.ports (prev : Ports) (t : Stmt) : Ports := t.settings.foldl PortSetting.apply (t.act.apply prev.hold)

/-- The ports of a program's cycles, the first statement's first. -/
def assemble (prev : Ports) : List Stmt → List Ports
  | [] => []
  | t :: ts => t.ports prev :: assemble (t.ports prev) ts

/-- The pseudo-instructions of R99. `K` is the numbers that a SETNOTE names: the reals, or the rationals where a program
is to be evaluated. -/
inductive Pseudo (K : Type) where
  | octUp
  | octDn
  | waveNext
  | ack (mask : BitVec 5)
  | dirty
  | setNote (x : K)
  | srcEdge
  | srcPoll
  | ticks (n : Nat)
  | wait (n : Nat)
deriving DecidableEq, Repr

/-- The statements a pseudo-instruction stands for (R99). -/
def Pseudo.expand {K : Type} [Field K] [LinearOrder K] [FloorRing K] : Pseudo K → List Stmt
  | .octUp => [{ act := .wr .cmd 1 }]
  | .octDn => [{ act := .wr .cmd 2 }]
  | .waveNext => [{ act := .wr .cmd 4 }]
  | .ack mask => [{ act := .wr .flags mask.toNat }]
  | .dirty => [{ act := .wr .flagsSet 0x10 }]
  | .setNote x => [{ act := .wr .note (roundHalfUp (x * 256)) }]
  | .srcEdge => [{ act := .wr .ctrl 0 }]
  | .srcPoll => [{ act := .wr .ctrl 1 }]
  | .ticks n => List.replicate n { act := .nop, settings := [.tick] }
  | .wait n => List.replicate n { act := .nop }

/-- The machine with a host program placed after the inputs it has, its first lines held from the last of them. -/
def State.load (s : State) (prog : List Stmt) : State :=
  { s with inputs := s.inputs ++ assemble (s.inputs.getLastD s.ports) prog }

end Sys2Proof.Machine
end

