-- ==== Sys2Proof/Machine/Reference.lean ====
section
/-! DEFINITION. The step function of 10_state.md R50 as the spec writes it: one expression per element over S and I, the
transaction selected by its address and the flags merged once, with no operation decoded or dispatched. The machine
is `step`; that it computes this function is an obligation. -/

namespace Sys2Proof.Machine.Rule50

open Sys2Proof Sys2Proof.Config Sys2Proof.Machine

/-- `bus_valid = 1`, `bus_we = 1` and `bus_addr = a`. -/
def writes (p : Ports) (a : RegAddr) : Bool := p.busValid && p.busWe && p.busAddr == a

/-- `CLR` of HostEffect (42_host_interface.md R160, R178). -/
def clr (p : Ports) : BitVec 5 := if writes p 0x6 then clearMaskOfData p.busWdata else 0

/-- `HSET` of HostEffect (42_host_interface.md R160, R180). -/
def hset (p : Ports) : BitVec 5 := if writes p 0x7 then setMaskOfData p.busWdata else 0

/-- `SSET` of SensorEffect (41_input_bridge.md R143, R144). -/
def sset (c : Params) (r : Regs) (p : Ports) : BitVec 5 :=
  if r.srdySrc then (if p.tick && r.pollCnt + 1 == c.pollPeriod then sensorFlags else 0)
  else (if readyEdge c r then sensorFlags else 0)

/-- `BSET[b]` of ButtonEffect (41_input_bridge.md R140). -/
def bset (c : Params) (r : Regs) (b : Button) : BitVec 5 :=
  if (debounce c.debounceCycles (r.btn b)).confirm then buttonFlags b else 0

/-- POLL_CNT of SensorEffect (41_input_bridge.md R144, R145). -/
def pollCnt (c : Params) (r : Regs) (p : Ports) : BitVec 8 :=
  if r.srdySrc then
    (if p.tick then (if r.pollCnt + 1 = c.pollPeriod then 0 else r.pollCnt + 1) else r.pollCnt)
  else 0

/-- ButtonEffect (41_input_bridge.md R140): the elements of button `b`. -/
def button (c : Params) (r : Regs) (p : Ports) (b : Button) : ButtonRegs :=
  nextButton c.debounceCycles (r.btn b).fall (p.btn b) (r.btn b)

/-- The octave after the host's part of the cycle: WR OCTAVE (R166) or WR CMD (R175). -/
def octave (r : Regs) (p : Ports) : BitVec 3 :=
  if writes p 0x2 then octaveOfData p.busWdata
  else if writes p 0x5 then octaveStep r.octave (p.busWdata.getLsbD 0) (p.busWdata.getLsbD 1)
  else r.octave

/-- The waveform after the host's part of the cycle: WR WAVEFORM (R168) or WR CMD (R175). -/
def waveform (r : Regs) (p : Ports) : BitVec 2 :=
  if writes p 0x3 then waveformOfData p.busWdata
  else if writes p 0x5 then waveStep r.waveform (p.busWdata.getLsbD 2)
  else r.waveform

/-- `Step(S, I)` (10_state.md R50). -/
def stepRegs (c : Params) (r : Regs) (p : Ports) : Regs :=
  if p.rst then Regs.reset c
  else
    let now := sampleNow c r p.tick
    { srdySrc := if writes p 0x0 then ctrlOfData p.busWdata else r.srdySrc
      note := if writes p 0x1 then noteOfData p.busWdata else r.note
      octave := octave r p
      waveform := waveform r p
      volume := if writes p 0x4 then volumeOfData p.busWdata else r.volume
      phase := if now then nextPhase c r else r.phase
      outCode := if now then sampleCode c r else r.outCode
      load := now
      tdiv := if p.tick && c.cadence == .two then !r.tdiv else r.tdiv
      pollCnt := pollCnt c r p
      flags :=
        (r.flags &&& ~~~clr p) ||| hset p ||| sset c r p ||| bset c r .up ||| bset c r .dn ||| bset c r .wv
      up := button c r p .up
      dn := button c r p .dn
      wv := button c r p .wv
      rs1 := p.srdy
      rs2 := r.rs1
      rs3 := r.rs2 }

/-- `rdata_o` of a cycle (10_state.md R44): the read's value when `rst = 0`, `bus_valid = 1` and `bus_we = 0`, else
0. -/
def rdata (r : Regs) (p : Ports) : Word :=
  if !p.rst && p.busValid && !p.busWe then hostRead p.busAddr r else 0

/-- The five outputs of a cycle (10_state.md R44). -/
def outputs (r : Regs) (p : Ports) : Outputs :=
  { rdata := rdata r p, dacCode := r.outCode, dacLoad := r.load, flags := r.flags, irq := r.flags != 0 }

end Sys2Proof.Machine.Rule50
end

