-- ==== Sys2Proof/Safety.lean ====
section
/-! DEFINITION. What the claims call a legal state (10_state.md R43), the boundary between two cycles, and runs. -/

namespace Sys2Proof.Safety

open Sys2Proof Sys2Proof.Config Sys2Proof.Machine

/-- The legal values of one button's elements (R43). DB_STATE is legal by its type. -/
abbrev LegalButton (c : Params) (b : ButtonRegs) : Prop :=
  b.dbCnt < c.debounceCycles ∧ (b.dbState = .idle → b.dbCnt = 0)

/-- "Invariants of every state reachable from reset" (R43). -/
abbrev LegalRegs (c : Params) (r : Regs) : Prop :=
  r.note.toNat ≤ 0xC00 ∧ (-3 ≤ r.octave.toInt ∧ r.octave.toInt ≤ 3) ∧ r.waveform.toNat ≤ 2 ∧
  r.volume.toNat ≤ 100 ∧ r.phase.toNat < phaseMod ∧ r.pollCnt < c.pollPeriod ∧
  LegalButton c r.up ∧ LegalButton c r.dn ∧ LegalButton c r.wv ∧ (c.cadence = .one → r.tdiv = false)

/-- A legal configuration and legal elements. -/
abbrev LegalState (s : State) : Prop := s.cfg.Legal ∧ LegalRegs s.cfg s.regs

/-- Between two cycles: S is the elements and no mask is made. -/
abbrev AtBoundary (s : State) : Prop := s.start = s.regs ∧ s.masks = Masks.none

/-- The confirmation of button `b` happens in the next cycle, if that is no reset cycle (41_input_bridge.md R137). -/
abbrev Confirms (b : Button) (s : State) : Prop :=
  (s.regs.btn b).dbState = .check2 ∧ (s.regs.btn b).dbCnt = 0 ∧ (s.regs.btn b).bs2 = false

/-- `n` cycles lead from `s` to `t`. -/
abbrev Runs (n : Nat) (s t : State) : Prop :=
  Host.Core.run { State := State, Fault := Fault, Refusal := Refusal, step := step, reset := State.reset } n s = .next t

end Sys2Proof.Safety
end

