-- ==== Sys2Proof/Certificates/Slice0/Obligations.lean ====
section
/-! DEFINITION. The statements for the provers. `s.pushPorts p` is the machine `s` with the ports `p` in its next cycle,
so a statement about `step (s.pushPorts p)` for every `s` and `p` is about every state S and every inputs I. A
configuration is the state's `cfg`, so a statement about every `s` is about every configuration. -/

open Sys2Proof Sys2Proof.Config Sys2Proof.Machine Sys2Proof.Safety

/-! ## Encoding -/

/-- Words written out from 30_encoding.md R81, R84, R97, R99 decode to their operations. That the word of OCTUP is the
row of the single-bit form, and 7 the row WR_CMD, is the model's reading of the table's rows (log 16): R84 itself names
only WR CMD at address 5. -/
def Obligations.SpecWordsDecodeToTheirOperations : Prop :=
  decode (.host37 0x00_0000_0000#37) = .ok .rdCtrl ∧
  decode (.host37 0x11_0000_0680#37) = .ok (.wrNote 0x680#32) ∧
  decode (.host37 0x12_FFFF_FFFF#37) = .ok (.wrOctave 0xFFFF_FFFF#32) ∧
  decode (.host37 0x15_0000_0001#37) = .ok .wrCmdOctUp ∧
  decode (.host37 0x15_0000_0007#37) = .ok (.wrCmd 7#32) ∧
  decode (.host37 0x16_0000_0011#37) = .ok (.wrFlags 0x11#32) ∧
  decode (.host37 0x0A_FFFF_FFFF#37) = .ok .rdStatus ∧
  decode (.host37 0x1F_0000_0001#37) = .ok .wrRsvd15 ∧
  decode (.bus 0b00#2) = .ok .nop ∧ decode (.tick 0b01#2) = .ok .tick ∧
  decode (.btn .dn 0b010#3) = .ok .btnFallDn ∧ decode (.srdy 0b0001#4) = .ok .srdyEdge ∧
  decode (.poll 0b011#3) = .ok .pollTick ∧ decode (.rst 0b1#1) = .ok .reset

/-- Decoding the encoding of a well-formed operation gives it back, every operand at every value. -/
def Obligations.EncodedOperationsDecodeBack : Prop :=
  ∀ i : Instr, wellFormed i = true → decode (encode i) = .ok i

/-- R84: every one of the `2^37` words selects a row, a well-formed operation whose own word has the same W and ADDR. -/
def Obligations.EveryTransactionWordSelectsARow : Prop :=
  ∀ w : HostWord, ∃ (i : Instr) (d : Word),
    decode (.host37 w) = .ok i ∧ wellFormed i = true ∧ encode i = .host37 (hostWord (wField w) (addrField w) d)

/-- What the host presents in cycles with the ports `ps`: rst, tick_i, bus_valid and the transaction word. -/
abbrev presentedIn (ps : List Ports) : List (Bool × Bool × Bool × HostWord) :=
  ps.map fun p => (p.rst, p.tick, p.busValid, p.transaction)

/-- R99: each one-word pseudo-instruction assembles to one cycle, without reset or tick, with the word the table gives
it on a valid bus, whatever the lines before; TICKS and WAIT to cycles without a transaction; and R98: the button and
sensor lines keep their level. The numbers of SETNOTE are the reals. That a program is abstract syntax is the model's
choice (log 21). -/
def Obligations.PseudoInstructionsAssembleToTheirWords : Prop :=
  ∀ prev : Ports,
    presentedIn (assemble prev (Pseudo.octUp : Pseudo ℝ).expand) = [(false, false, true, 0x15_0000_0001#37)] ∧
    presentedIn (assemble prev (Pseudo.octDn : Pseudo ℝ).expand) = [(false, false, true, 0x15_0000_0002#37)] ∧
    presentedIn (assemble prev (Pseudo.waveNext : Pseudo ℝ).expand) = [(false, false, true, 0x15_0000_0004#37)] ∧
    (∀ m : BitVec 5, presentedIn (assemble prev (Pseudo.ack m : Pseudo ℝ).expand) =
      [(false, false, true, 0x16_0000_0000#37 ||| m.zeroExtend 37)]) ∧
    presentedIn (assemble prev (Pseudo.dirty : Pseudo ℝ).expand) = [(false, false, true, 0x17_0000_0010#37)] ∧
    (∀ x : ℝ, presentedIn (assemble prev (Pseudo.setNote x).expand) =
      [(false, false, true, hostWord true 0x1 (BitVec.ofInt 32 ⌊x * 256 + 1 / 2⌋))]) ∧
    presentedIn (assemble prev (Pseudo.srcEdge : Pseudo ℝ).expand) = [(false, false, true, 0x10_0000_0000#37)] ∧
    presentedIn (assemble prev (Pseudo.srcPoll : Pseudo ℝ).expand) = [(false, false, true, 0x10_0000_0001#37)] ∧
    (∀ n, ((assemble prev (Pseudo.ticks n : Pseudo ℝ).expand).map fun p => (p.rst, p.tick, p.busValid)) =
      List.replicate n (false, true, false)) ∧
    (∀ n, ((assemble prev (Pseudo.wait n : Pseudo ℝ).expand).map fun p => (p.rst, p.tick, p.busValid)) =
      List.replicate n (false, false, false)) ∧
    (∀ i : Pseudo ℝ, ∀ p ∈ assemble prev i.expand, (∀ b : Button, p.btn b = prev.btn b) ∧ p.srdy = prev.srdy)

/-! ## Fetching and running -/

/-- A well-formed operation, its bits placed (log 2, log 22), is among the operations of the next cycle. -/
def Obligations.PlacedOperationIsPresented : Prop :=
  ∀ (s : State) (i : Instr), wellFormed i = true →
    CycleOp.op i ∈ operations (beginCycle (s.present (encode i)))

/-- A step runs what its cycle presents: in a reset cycle RESET alone; in any other the host's operation, decoded from
the bus ports, first, from the start of the cycle, and then the units of the cycle. Every operation presented is run
by `exec`, between what the units before it and after it do, and the clock edge ends the step. That the units act one
after another, the host first, is the model's own way to compute R50 (log 4): the spec gives them no order. -/
def Obligations.StepRunsThePresentedOperations : Prop :=
  ∀ s : State,
    (s.nextPorts.rst = true →
      ∃ t, exec .reset (beginCycle s) = .next t ∧ step s = .next (endCycle t)) ∧
    (s.nextPorts.rst = false → ∀ i, decode (hostBits (beginCycle s)) = .ok i →
      ∃ t u, exec i (beginCycle s) = .next t ∧ runOps (operations (beginCycle s)).tail t = .next u ∧
        step s = .next (endCycle u)) ∧
    (∀ i, CycleOp.op i ∈ operations (beginCycle s) →
      ∃ pre post t₁ t₂ t₃, operations (beginCycle s) = pre ++ .op i :: post ∧
        runOps pre (beginCycle s) = .next t₁ ∧ exec i t₁ = .next t₂ ∧ runOps post t₂ = .next t₃ ∧
        step s = .next (endCycle t₃))

/-! ## Reset -/

/-- R221: the reset value of every element, in every configuration; and `State.reset` holds them. -/
def Obligations.ResetStateHasTheListedValues : Prop :=
  (∀ c : Params,
    let r := Regs.reset c
    r.srdySrc = true ∧ r.note = 0x000 ∧ r.octave = 0 ∧ r.waveform = 0 ∧ r.volume = 20 ∧ r.phase = 0 ∧
    r.outCode = 2048 ∧ r.load = false ∧ r.tdiv = false ∧ r.pollCnt = 0 ∧ r.flags = 0b00000 ∧
    (∀ b : Button, (r.btn b).bs1 = true ∧ (r.btn b).bs2 = true ∧ (r.btn b).bs3 = true ∧
      (r.btn b).edgeLatch = false ∧ (r.btn b).dbState = .idle ∧ (r.btn b).dbCnt = 0) ∧
    r.rs1 = (!c.srdyActiveHigh) ∧ r.rs2 = (!c.srdyActiveHigh) ∧ r.rs3 = (!c.srdyActiveHigh)) ∧
  State.reset.regs = Regs.reset State.reset.cfg

/-- R220: a cycle with `rst = 1` loads ResetState whatever the state and the other inputs; and RESET, the operation,
does nothing else. -/
def Obligations.ResetOverridesEverything : Prop :=
  (∀ s : State, exec .reset s =
    .next { s with regs := Regs.reset s.cfg, masks := Masks.none, outs := { s.outs with rdata := 0 } }) ∧
  (∀ (s : State) (p : Ports), p.rst = true →
    ∃ t, step (s.pushPorts p) = .next t ∧ t.regs = Regs.reset s.cfg ∧ t.cfg = s.cfg ∧ t.inputs = s.inputs ∧
      AtBoundary t)

/-- R222: the outputs in a reset cycle, and in the first cycle after it. -/
def Obligations.OutputsInAndAfterReset : Prop :=
  ∀ (s : State) (p q : Ports) (rest : List Ports), s.inputs = p :: q :: rest → p.rst = true →
    ∃ t u, step s = .next t ∧ step t = .next u ∧
      t.outs = { rdata := 0, dacCode := s.regs.outCode, dacLoad := s.regs.load, flags := s.regs.flags,
                 irq := s.regs.flags != 0 } ∧
      u.outs.dacCode = 2048 ∧ u.outs.dacLoad = false ∧ u.outs.flags = 0 ∧ u.outs.irq = false

/-- R223: the first cycle after a reset is an ordinary one, the cycle function of R50 from ResetState: a tick in it
samples, with either cadence, and a host write in it is performed. -/
def Obligations.FirstCycleAfterResetIsOrdinary : Prop :=
  ∀ (s : State) (p q : Ports) (rest : List Ports), s.inputs = p :: q :: rest → p.rst = true → q.rst = false →
    ∃ t u, step s = .next t ∧ step t = .next u ∧
      u.regs = Rule50.stepRegs s.cfg (Regs.reset s.cfg) q ∧
      (q.tick = true → u.regs.load = true ∧
        u.regs.phase.toNat = (s.cfg.inc3[(0 : Fin 13)].toNat * 2 ^ 3) % phaseMod) ∧
      (q.busValid = true → q.busWe = true → q.busAddr = 0x4 →
        (u.regs.volume.toNat : Int) = clamp q.busWdata.toInt 0 100)

/-! ## The cycle as a whole -/

/-- R50: one step is the function `Step(S, I)` the spec writes, with the outputs of R44, from every legal state (a state
that violates R43 is unreachable; what the single-bit commands do there is log 12). -/
def Obligations.StepComputesTheCycleFunction : Prop :=
  ∀ (s : State) (p : Ports), LegalState s →
    ∃ t, step (s.pushPorts p) = .next t ∧ t.regs = Rule50.stepRegs s.cfg s.regs p ∧
      t.outs = Rule50.outputs s.regs p ∧ t.cfg = s.cfg ∧ t.ports = p ∧ t.inputs = s.inputs ∧ AtBoundary t

/-- R205: the outcome of a cycle does not depend on any order among its events: the units' operations in any order
give the same next state. -/
def Obligations.OrderWithinACycleDoesNotMatter : Prop :=
  ∀ (s : State) (l : List CycleOp), l.Perm (operations (beginCycle s)) →
    ∃ t, runOps l (beginCycle s) = .next t ∧ step s = .next (endCycle t)

/-- R200, R52: every cycle completes, from every state and with every inputs: no fault, no refusal, no stall; and the
machine is between two cycles again. -/
def Obligations.EveryCycleCompletes : Prop :=
  ∀ s : State, ∃ t, step s = .next t ∧ AtBoundary t ∧ t.inputs = s.inputs.tail ∧ t.ports = s.nextPorts

/-- R43: a legal state stays legal. -/
def Obligations.StepKeepsLegalStates : Prop :=
  ∀ s t : State, LegalState s → step s = .next t → LegalState t

/-- R43: the state after reset is legal, in every legal configuration, the default one among them. -/
def Obligations.ResetStateIsLegal : Prop :=
  (∀ c : Params, c.Legal → LegalState (State.resetOf c)) ∧ LegalState State.reset

/-- R67, R20: no step changes the configuration, the ROMs among it. -/
def Obligations.ConfigurationNeverChanges : Prop :=
  ∀ s t : State, step s = .next t → t.cfg = s.cfg

/-- R51: what the host presents in a cycle changes nothing the engine, the sensor unit and the buttons do in that
cycle (`t` is the cycle without it, `u` the cycle with it). A flag that the cycle sets (`v`: the same cycle, no flag
being set at its start) is left set, whatever the host clears, and the host sets no flag but `displayDirty`. -/
def Obligations.HostIsNotSeenByItsOwnCycle : Prop :=
  ∀ (s : State) (p : Ports) (we : Bool) (a : RegAddr) (d : Word), p.rst = false → p.busValid = false →
    ∃ t u v, step (s.pushPorts p) = .next t ∧
      step (s.pushPorts { p with busValid := true, busWe := we, busAddr := a, busWdata := d }) = .next u ∧
      step ((s.updRegs fun r => { r with flags := 0 }).pushPorts p) = .next v ∧
      u.regs.phase = t.regs.phase ∧ u.regs.outCode = t.regs.outCode ∧ u.regs.load = t.regs.load ∧
      u.regs.tdiv = t.regs.tdiv ∧ u.regs.pollCnt = t.regs.pollCnt ∧ (∀ b, u.regs.btn b = t.regs.btn b) ∧
      u.regs.rs1 = t.regs.rs1 ∧ u.regs.rs2 = t.regs.rs2 ∧ u.regs.rs3 = t.regs.rs3 ∧
      (∀ i : Fin 5, v.regs.flags.getLsbD i = true → u.regs.flags.getLsbD i = true) ∧
      (∀ i : Fin 5, i ≠ 4 → u.regs.flags.getLsbD i = true → t.regs.flags.getLsbD i = true)

/-- R47, R73: the parameters and CTRL have the host as their only writer: a cycle without a write leaves them. -/
def Obligations.OnlyTheHostWritesParameters : Prop :=
  ∀ (s : State) (p : Ports), p.rst = false → (p.busValid && p.busWe) = false →
    ∃ t, step (s.pushPorts p) = .next t ∧ t.regs.srdySrc = s.regs.srdySrc ∧ t.regs.note = s.regs.note ∧
      t.regs.octave = s.regs.octave ∧ t.regs.waveform = s.regs.waveform ∧ t.regs.volume = s.regs.volume

/-- R44: the five outputs of a cycle. -/
def Obligations.OutputsFollowTheStartOfTheCycle : Prop :=
  ∀ (s : State) (p : Ports), ∃ t, step (s.pushPorts p) = .next t ∧
    t.outs.dacCode = s.regs.outCode ∧ t.outs.dacLoad = s.regs.load ∧ t.outs.flags = s.regs.flags ∧
    (t.outs.irq = true ↔ s.regs.flags ≠ 0) ∧
    t.outs.rdata =
      (if p.rst = false ∧ p.busValid = true ∧ p.busWe = false then hostRead p.busAddr s.regs else 0)

/-- R82, R65: a read's result is the register at the start of the cycle, its DATA bits are not looked at, and it leaves
the state a cycle without a transaction leaves. -/
def Obligations.ReadsIgnoreDataAndChangeNothing : Prop :=
  ∀ (s : State) (p : Ports) (d : Word), p.rst = false → p.busValid = true → p.busWe = false →
    ∃ t u v, step (s.pushPorts p) = .next t ∧ t.outs.rdata = hostRead p.busAddr s.regs ∧
      step (s.pushPorts { p with busWdata := d }) = .next u ∧ u.regs = t.regs ∧ u.outs = t.outs ∧
      step (s.pushPorts { p with busValid := false }) = .next v ∧ v.regs = t.regs

/-- R68: a parameter written in one cycle is read back, as clamped by its write rule, in the next. -/
def Obligations.WrittenParametersReadBackClamped : Prop :=
  ∀ (s : State) (p q : Ports) (rest : List Ports), s.inputs = p :: q :: rest →
    p.rst = false → p.busValid = true → p.busWe = true →
    q.rst = false → q.busValid = true → q.busWe = false → q.busAddr = p.busAddr →
    ∃ t u, step s = .next t ∧ step t = .next u ∧
      (p.busAddr = 0x1 → u.outs.rdata.toInt = clamp p.busWdata.toInt 0 0xC00) ∧
      (p.busAddr = 0x2 → u.outs.rdata.toInt = clamp p.busWdata.toInt (-3) 3) ∧
      (p.busAddr = 0x3 → u.outs.rdata.toInt = clamp p.busWdata.toInt 0 2) ∧
      (p.busAddr = 0x4 → u.outs.rdata.toInt = clamp p.busWdata.toInt 0 100) ∧
      (p.busAddr = 0x0 → u.outs.rdata.toNat = p.busWdata.toNat % 2)

/-! ## Flags -/

/-- The sensor-ready source that CTRL.SRDY_SRC selects sets its flags in a cycle from `s` with the ports `p` (R142 to
R144): the edge source at a synchronized edge, the poll source at the `POLL_PERIOD`-th tick. -/
abbrev SensorSets (s : State) (p : Ports) : Prop :=
  if s.regs.srdySrc then p.tick = true ∧ s.regs.pollCnt + 1 = s.cfg.pollPeriod
  else (s.regs.rs3 = !s.cfg.srdyActiveHigh) ∧ s.regs.rs2 = s.cfg.srdyActiveHigh

/-- The transaction of `p` is a write of address `a`. -/
abbrev WritesTo (p : Ports) (a : RegAddr) : Prop := p.busValid = true ∧ p.busWe = true ∧ p.busAddr = a

/-- R36, R50: each flag after a cycle. It is set by its own sources, cleared by the host's write of FLAGS alone, and a
set wins over a clear. -/
def Obligations.FlagsChangeOnlyByTheirSources : Prop :=
  ∀ (s : State) (p : Ports) (i : Fin 5), p.rst = false →
    ∃ t, step (s.pushPorts p) = .next t ∧
      (t.regs.flags.getLsbD i = true ↔
        (s.regs.flags.getLsbD i = true ∧ ¬ (WritesTo p 0x6 ∧ p.busWdata.getLsbD i = true)) ∨
        (i = 0 ∧ Confirms .up s) ∨ (i = 1 ∧ Confirms .dn s) ∨ (i = 2 ∧ Confirms .wv s) ∨
        (i = 3 ∧ SensorSets s p) ∨
        (i = 4 ∧ (Confirms .up s ∨ Confirms .dn s ∨ Confirms .wv s ∨ SensorSets s p ∨
          (WritesTo p 0x7 ∧ p.busWdata.getLsbD 4 = true))))

/-! ## Host transactions -/

/-- RD CTRL, RD NOTE, RD OCTAVE, RD WAVEFORM, RD VOLUME (R161, R163, R165, R167, R169): each completes, drives the
register at the start of the cycle, zero-extended but for the octave, which is sign-extended, and changes nothing
else. -/
def Obligations.ParameterReadsReturnTheirRegister : Prop :=
  ∀ (s : State) (d : Word), ∃ c n o w v : Word,
    (decode (.host37 (hostWord false 0x0 d)) = .ok .rdCtrl ∧ c.toNat = s.start.srdySrc.toNat ∧
      exec .rdCtrl s = .next { s with outs := { s.outs with rdata := c } }) ∧
    (decode (.host37 (hostWord false 0x1 d)) = .ok .rdNote ∧ n.toNat = s.start.note.toNat ∧
      exec .rdNote s = .next { s with outs := { s.outs with rdata := n } }) ∧
    (decode (.host37 (hostWord false 0x2 d)) = .ok .rdOctave ∧ o.toInt = s.start.octave.toInt ∧
      exec .rdOctave s = .next { s with outs := { s.outs with rdata := o } }) ∧
    (decode (.host37 (hostWord false 0x3 d)) = .ok .rdWaveform ∧ w.toNat = s.start.waveform.toNat ∧
      exec .rdWaveform s = .next { s with outs := { s.outs with rdata := w } }) ∧
    (decode (.host37 (hostWord false 0x4 d)) = .ok .rdVolume ∧ v.toNat = s.start.volume.toNat ∧
      exec .rdVolume s = .next { s with outs := { s.outs with rdata := v } })

/-- RD CMD, RD FLAGS, RD FLAGS_SET (R171, R177, R179): the write-only addresses read 0, FLAGS reads the flags at the
start of the cycle, and no flag is cleared. -/
def Obligations.CommandAndFlagReads : Prop :=
  ∀ (s : State) (d : Word), ∃ f : Word,
    (decode (.host37 (hostWord false 0x5 d)) = .ok .rdCmd ∧
      exec .rdCmd s = .next { s with outs := { s.outs with rdata := 0 } }) ∧
    (decode (.host37 (hostWord false 0x6 d)) = .ok .rdFlags ∧ f.toNat = s.start.flags.toNat ∧
      exec .rdFlags s = .next { s with outs := { s.outs with rdata := f } }) ∧
    (decode (.host37 (hostWord false 0x7 d)) = .ok .rdFlagsSet ∧
      exec .rdFlagsSet s = .next { s with outs := { s.outs with rdata := 0 } })

/-- The 2-bit field `v` shows the state `d` of a debounce machine: IDLE = 0, CHECK1 = 1, CHECK2 = 2 (R39). -/
abbrev ShowsDbState (v : BitVec 2) (d : DbState) : Prop :=
  (d = .idle → v = 0) ∧ (d = .check1 → v = 1) ∧ (d = .check2 → v = 2)

/-- RD PHASE, RD OUT_CODE, RD STATUS (R181, R183, R185): PHASE whole, OUT_CODE zero-extended, STATUS with the layout of
R95, every bit given its source. -/
def Obligations.ObservationReads : Prop :=
  ∀ (s : State) (d : Word), ∃ o v : Word,
    (decode (.host37 (hostWord false 0x8 d)) = .ok .rdPhase ∧
      exec .rdPhase s = .next { s with outs := { s.outs with rdata := s.start.phase } }) ∧
    (decode (.host37 (hostWord false 0x9 d)) = .ok .rdOutCode ∧ o.toNat = s.start.outCode.toNat ∧
      exec .rdOutCode s = .next { s with outs := { s.outs with rdata := o } }) ∧
    (decode (.host37 (hostWord false 0xA d)) = .ok .rdStatus ∧
      exec .rdStatus s = .next { s with outs := { s.outs with rdata := v } } ∧
      ShowsDbState (v.extractLsb' 0 2) s.start.up.dbState ∧ ShowsDbState (v.extractLsb' 2 2) s.start.dn.dbState ∧
      ShowsDbState (v.extractLsb' 4 2) s.start.wv.dbState ∧ v.getLsbD 6 = s.start.tdiv ∧ v.getLsbD 7 = false ∧
      v.extractLsb' 8 8 = s.start.pollCnt ∧ v.getLsbD 16 = s.start.up.bs2 ∧ v.getLsbD 17 = s.start.dn.bs2 ∧
      v.getLsbD 18 = s.start.wv.bs2 ∧ v.getLsbD 19 = s.start.rs2 ∧ v.extractLsb' 20 12 = 0)

/-- RD RSVD11..15 and WR RSVD11..15 (R187, R188): each completes, reads 0 and has no effect. -/
def Obligations.ReservedTransactionsDoNothing : Prop :=
  ∀ s : State,
    exec .rdRsvd11 s = .next { s with outs := { s.outs with rdata := 0 } } ∧
    exec .rdRsvd12 s = .next { s with outs := { s.outs with rdata := 0 } } ∧
    exec .rdRsvd13 s = .next { s with outs := { s.outs with rdata := 0 } } ∧
    exec .rdRsvd14 s = .next { s with outs := { s.outs with rdata := 0 } } ∧
    exec .rdRsvd15 s = .next { s with outs := { s.outs with rdata := 0 } } ∧
    exec .wrRsvd11 s = .next { s with outs := { s.outs with rdata := 0 } } ∧
    exec .wrRsvd12 s = .next { s with outs := { s.outs with rdata := 0 } } ∧
    exec .wrRsvd13 s = .next { s with outs := { s.outs with rdata := 0 } } ∧
    exec .wrRsvd14 s = .next { s with outs := { s.outs with rdata := 0 } } ∧
    exec .wrRsvd15 s = .next { s with outs := { s.outs with rdata := 0 } } ∧
    (∀ (a : RegAddr) (d : Word), 0xB ≤ a.toNat →
      ∃ i j, decode (.host37 (hostWord false a d)) = .ok i ∧ decode (.host37 (hostWord true a d)) = .ok j ∧
        exec i s = .next { s with outs := { s.outs with rdata := 0 } } ∧
        exec j s = .next { s with outs := { s.outs with rdata := 0 } })

/-- WR PHASE, WR OUT_CODE, WR STATUS (R182, R184, R186): each completes and has no effect, whatever the data. -/
def Obligations.WritesOfReadOnlyRegistersDoNothing : Prop :=
  ∀ (s : State) (d : Word),
    (decode (.host37 (hostWord true 0x8 d)) = .ok (.wrPhase d) ∧
      exec (.wrPhase d) s = .next { s with outs := { s.outs with rdata := 0 } }) ∧
    (decode (.host37 (hostWord true 0x9 d)) = .ok (.wrOutCode d) ∧
      exec (.wrOutCode d) s = .next { s with outs := { s.outs with rdata := 0 } }) ∧
    (decode (.host37 (hostWord true 0xA d)) = .ok (.wrStatus d) ∧
      exec (.wrStatus d) s = .next { s with outs := { s.outs with rdata := 0 } })

/-- WR CTRL (R162): DATA[0] is stored, the other bits are ignored, nothing else changes. -/
def Obligations.WriteCtrlStoresItsLowBit : Prop :=
  ∀ (s : State) (d : Word), decode (.host37 (hostWord true 0x0 d)) = .ok (.wrCtrl d) ∧
    exec (.wrCtrl d) s = .next { s with
      regs := { s.regs with srdySrc := decide (d.toNat % 2 = 1) }, outs := { s.outs with rdata := 0 } }

/-- WR NOTE (R164): the signed data, clamped to 0 .. 0xC00, and nothing else. -/
def Obligations.WriteNoteClamps : Prop :=
  ∀ (s : State) (d : Word), ∃ v : BitVec 12, decode (.host37 (hostWord true 0x1 d)) = .ok (.wrNote d) ∧
    (v.toNat : Int) = min (max d.toInt 0) 0xC00 ∧
    exec (.wrNote d) s = .next { s with regs := { s.regs with note := v }, outs := { s.outs with rdata := 0 } }

/-- WR OCTAVE (R166): the signed data, clamped to -3 .. 3, and nothing else. -/
def Obligations.WriteOctaveClamps : Prop :=
  ∀ (s : State) (d : Word), ∃ v : BitVec 3, decode (.host37 (hostWord true 0x2 d)) = .ok (.wrOctave d) ∧
    v.toInt = min (max d.toInt (-3)) 3 ∧
    exec (.wrOctave d) s =
      .next { s with regs := { s.regs with octave := v }, outs := { s.outs with rdata := 0 } }

/-- WR WAVEFORM (R168): the signed data, clamped to 0 .. 2, and nothing else. -/
def Obligations.WriteWaveformClamps : Prop :=
  ∀ (s : State) (d : Word), ∃ v : BitVec 2, decode (.host37 (hostWord true 0x3 d)) = .ok (.wrWaveform d) ∧
    (v.toNat : Int) = min (max d.toInt 0) 2 ∧
    exec (.wrWaveform d) s =
      .next { s with regs := { s.regs with waveform := v }, outs := { s.outs with rdata := 0 } }

/-- WR VOLUME (R170): the signed data, clamped to 0 .. 100, and nothing else. -/
def Obligations.WriteVolumeClamps : Prop :=
  ∀ (s : State) (d : Word), ∃ v : BitVec 7, decode (.host37 (hostWord true 0x4 d)) = .ok (.wrVolume d) ∧
    (v.toNat : Int) = min (max d.toInt 0) 100 ∧
    exec (.wrVolume d) s =
      .next { s with regs := { s.regs with volume := v }, outs := { s.outs with rdata := 0 } }

/-- WR CMD (R175, R176): the octave moves by the net of its two bits with one saturation, the waveform by its bit
modulo 3, the other bits of the data are ignored, and nothing else changes, no flag among it. -/
def Obligations.CommandMovesOctaveAndWaveform : Prop :=
  ∀ (s : State) (d : Word), ∃ (o : BitVec 3) (w : BitVec 2),
    (singleCommand d = false → decode (.host37 (hostWord true 0x5 d)) = .ok (.wrCmd d)) ∧
    o.toInt = min (max (s.start.octave.toInt + (d.getLsbD 0).toNat - (d.getLsbD 1).toNat) (-3)) 3 ∧
    w.toNat = (s.start.waveform.toNat + (d.getLsbD 2).toNat) % 3 ∧
    exec (.wrCmd d) s =
      .next { s with regs := { s.regs with octave := o, waveform := w }, outs := { s.outs with rdata := 0 } }

/-- OCT_UP, OCT_DOWN, WAVE_NEXT (R172, R173, R174): the single-bit commands, whatever DATA[31:3]. That their words decode
to rows of their own is the model's reading of the table (log 16), and that in a state against R43 a command leaves the
other register alone, where R175 would reduce it, is the model's choice (log 12). -/
def Obligations.SingleBitCommands : Prop :=
  ∀ s : State, ∃ (u d : BitVec 3) (w : BitVec 2),
    u.toInt = min (max (s.start.octave.toInt + 1) (-3)) 3 ∧
    d.toInt = min (max (s.start.octave.toInt - 1) (-3)) 3 ∧
    w.toNat = (s.start.waveform.toNat + 1) % 3 ∧
    exec .wrCmdOctUp s =
      .next { s with regs := { s.regs with octave := u }, outs := { s.outs with rdata := 0 } } ∧
    exec .wrCmdOctDown s =
      .next { s with regs := { s.regs with octave := d }, outs := { s.outs with rdata := 0 } } ∧
    exec .wrCmdWaveNext s =
      .next { s with regs := { s.regs with waveform := w }, outs := { s.outs with rdata := 0 } } ∧
    (∀ x : BitVec 29, decode (.host37 (hostWord true 0x5 (x ++ 0b001#3))) = .ok .wrCmdOctUp ∧
      decode (.host37 (hostWord true 0x5 (x ++ 0b010#3))) = .ok .wrCmdOctDown ∧
      decode (.host37 (hostWord true 0x5 (x ++ 0b100#3))) = .ok .wrCmdWaveNext)

/-- WR FLAGS (R178): the bits written 1 are cleared but for those set in the same cycle (`masks`), the other bits of the
data are ignored, and nothing else changes. -/
def Obligations.WriteFlagsClears : Prop :=
  ∀ (s : State) (d : Word), ∃ f m : BitVec 5, decode (.host37 (hostWord true 0x6 d)) = .ok (.wrFlags d) ∧
    exec (.wrFlags d) s = .next { s with
      regs := { s.regs with flags := f }, masks := { s.masks with clr := m, hset := 0 }
      outs := { s.outs with rdata := 0 } } ∧
    m.toNat = d.toNat % 2 ^ 5 ∧
    (∀ i : Fin 5, f.getLsbD i = true ↔
      (s.start.flags.getLsbD i = true ∧ d.getLsbD i = false) ∨ s.masks.sset.getLsbD i = true ∨
      s.masks.bsetUp.getLsbD i = true ∨ s.masks.bsetDn.getLsbD i = true ∨ s.masks.bsetWv.getLsbD i = true)

/-- WR FLAGS_SET (R180): DATA[4] sets `displayDirty`, every other bit of the data is ignored, no flag is cleared, and
nothing else changes; the other masks made so far in the cycle (`masks`) set their flags as well. -/
def Obligations.WriteFlagsSetSetsDisplayDirty : Prop :=
  ∀ (s : State) (d : Word), ∃ f m : BitVec 5, decode (.host37 (hostWord true 0x7 d)) = .ok (.wrFlagsSet d) ∧
    exec (.wrFlagsSet d) s = .next { s with
      regs := { s.regs with flags := f }, masks := { s.masks with clr := 0, hset := m }
      outs := { s.outs with rdata := 0 } } ∧
    (∀ i : Fin 5, m.getLsbD i = true ↔ i = 4 ∧ d.getLsbD 4 = true) ∧
    (∀ i : Fin 5, f.getLsbD i = true ↔
      s.start.flags.getLsbD i = true ∨ (i = 4 ∧ d.getLsbD 4 = true) ∨ s.masks.sset.getLsbD i = true ∨
      s.masks.bsetUp.getLsbD i = true ∨ s.masks.bsetDn.getLsbD i = true ∨ s.masks.bsetWv.getLsbD i = true)

/-- NOP (R189): at the start of a cycle it completes, clears and sets nothing, and drives 0. -/
def Obligations.NopDoesNothing : Prop :=
  ∀ s : State, AtBoundary s → exec .nop s = .next { s with outs := { s.outs with rdata := 0 } }

/-! ## The DDS engine -/

/-- TICK on a tick that samples (R111, R101 to R110): the six steps in integers, every other element as it was. -/
def Obligations.TickProducesASample : Prop :=
  ∀ s : State, LegalRegs s.cfg s.start → (s.cfg.cadence = .one ∨ s.start.tdiv = false) →
    ∃ (n : Fin 13) (w : Fin 3) (k : Fin 20) (code : BitVec 12) (ph : BitVec 32),
      n.val = (min s.start.note.toNat 0xC00 + 0x80) / 2 ^ 8 ∧ w.val = s.start.waveform.toNat ∧
      k.val = s.start.phase.toNat / 2 ^ 27 ∧
      (code.toNat : Int) =
        clamp (((s.cfg.wave[w])[k].toInt * s.start.volume.toNat).tdiv 100 + 2048) 0 4095 ∧
      ph.toNat =
        (s.start.phase.toNat + s.cfg.inc3[n].toNat * 2 ^ (s.start.octave.toInt + 3).toNat) % 0xA0000000 ∧
      exec .tick s = .next { s with regs := { s.regs with
        tdiv := (match s.cfg.cadence with | .one => s.regs.tdiv | .two => true)
        load := true, outCode := code, phase := ph } }

/-- TICK on a tick that does not sample (R101, R112): the divider toggles back and LOAD returns to 0. -/
def Obligations.TickWithoutASample : Prop :=
  ∀ s : State, s.cfg.cadence = .two → s.start.tdiv = true →
    exec .tick s = .next { s with regs := { s.regs with tdiv := false, load := false } }

/-- R112: a cycle without a tick, or with a tick that does not sample, leaves PHASE and OUT_CODE and sets LOAD to 0. -/
def Obligations.NoSampleLeavesPhaseAndCode : Prop :=
  ∀ (s : State) (p : Ports), p.rst = false → (p.tick = false ∨ (s.cfg.cadence = .two ∧ s.regs.tdiv = true)) →
    ∃ t, step (s.pushPorts p) = .next t ∧ t.regs.phase = s.regs.phase ∧ t.regs.outCode = s.regs.outCode ∧
      t.regs.load = false ∧ (p.tick = false → t.regs.tdiv = s.regs.tdiv)

/-- The number of ticks among the first `n` cycles to come. -/
abbrev ticksIn (n : Nat) (s : State) : Nat := (s.inputs.take n).countP (·.tick)

/-- R101, R237: with `CADENCE = 2` and TDIV = 0 the 1st, 3rd, 5th ... tick samples and no other, however many cycles
without a tick lie between them: after `n` cycles TDIV tells whether the number of ticks is odd, and LOAD is 1 exactly
if the last cycle was such a tick. -/
def Obligations.EveryOtherTickSamples : Prop :=
  ∀ (s t : State) (n : Nat), s.cfg.cadence = .two → s.regs.tdiv = false → n ≤ s.inputs.length →
    (∀ p ∈ s.inputs.take n, p.rst = false) → Runs n s t →
    (t.regs.tdiv = true ↔ ticksIn n s % 2 = 1) ∧
    (∀ p, (s.inputs.take n).getLast? = some p → (t.regs.load = true ↔ p.tick = true ∧ ticksIn n s % 2 = 1))

/-- R103: the note index, for every pattern and, in the legal range, as the note rounded half up; with the corner cases
the rule gives. -/
def Obligations.NoteIndexRoundsHalfUp : Prop :=
  (∀ note : BitVec 12, (noteIndex note).val = (min note.toNat 0xC00 + 0x80) / 2 ^ 8) ∧
  (∀ note : BitVec 12, note.toNat ≤ 0xC00 →
    256 * (noteIndex note).val ≤ note.toNat + 128 ∧ note.toNat + 128 < 256 * ((noteIndex note).val + 1)) ∧
  noteIndex 0x07F = 0 ∧ noteIndex 0x080 = 1 ∧ noteIndex 0xB80 = 12 ∧ noteIndex 0xC00 = 12

/-- R104, R105, R115: the increment is the tuning word times `2^(octave + 3)`, at least 1 and below `2^38`, and one octave
more doubles it. -/
def Obligations.IncrementDoublesWithTheOctave : Prop :=
  ∀ (c : Params) (r : Regs), c.Legal → LegalRegs c r →
    phaseIncrement c r = c.inc3[noteIndex r.note].toNat * 2 ^ (r.octave.toInt + 3).toNat ∧
    1 ≤ phaseIncrement c r ∧ phaseIncrement c r < 2 ^ 38 ∧
    (∀ o : BitVec 3, o.toInt = r.octave.toInt + 1 →
      phaseIncrement c { r with octave := o } = 2 * phaseIncrement c r)

/-- R107: the scaled sample is the product divided by 100 rounded toward zero: of all integers of the product's sign
whose hundredfold does not exceed it in size, the largest in size; with the rule's bound and corner cases. -/
def Obligations.ScalingRoundsTowardZero : Prop :=
  (∀ (x : Int) (v : BitVec 7), |100 * scale x v| ≤ |x * v.toNat| ∧ |x * v.toNat| < |100 * scale x v| + 100 ∧
    0 ≤ scale x v * (x * v.toNat)) ∧
  (∀ (x : Sample) (v : BitVec 7), v.toNat ≤ 100 → |x.toInt * v.toNat| ≤ 204800) ∧
  (∀ x : Int, scale x 0 = 0) ∧
  scale (-633) 20 = -126 ∧ scale 107 50 = 53 ∧ scale (-2048) 100 = -2048

/-- R108, R114: the code is `q + 2048` clamped to 0 .. 4095, so always in that range; and with a legal volume and a
12-bit sample `q + 2048` is in it already. -/
def Obligations.OutputClampNeverActs : Prop :=
  (∀ q : Int, ((outputCode q).toNat : Int) = clamp (q + 2048) 0 4095 ∧ (outputCode q).toNat ≤ 4095) ∧
  (∀ (x : Sample) (v : BitVec 7), v.toNat ≤ 100 →
    -2048 ≤ scale x.toInt v ∧ scale x.toInt v ≤ 2047 ∧
    ((outputCode (scale x.toInt v)).toNat : Int) = scale x.toInt v + 2048)

/-- R113: with `VOLUME = 0` every sample gives the code 2048, and the phase still advances. -/
def Obligations.VolumeZeroGivesMidScale : Prop :=
  ∀ (s : State) (p : Ports), p.rst = false → p.tick = true → (s.cfg.cadence = .one ∨ s.regs.tdiv = false) →
    s.regs.volume = 0 →
    ∃ t, step (s.pushPorts p) = .next t ∧ t.regs.outCode = 2048 ∧ t.regs.load = true ∧
      t.regs.phase.toNat = (s.regs.phase.toNat + phaseIncrement s.cfg s.regs) % phaseMod

/-- R116: advancing the phase removes whole table lengths and keeps the fraction. -/
def Obligations.PhaseKeepsItsRemainder : Prop :=
  ∀ (c : Params) (r : Regs), r.phase.toNat < phaseMod →
    (nextPhase c r).toNat +
        (r.phase.toNat + phaseIncrement c r) / phaseMod * phaseMod = r.phase.toNat + phaseIncrement c r ∧
    (nextPhase c r).toNat % 2 ^ 27 = (r.phase.toNat + phaseIncrement c r) % 2 ^ 27 ∧
    (nextPhase c r).toNat % phaseMod = (nextPhase c r).toNat

/-- R7, R117: a tuning word is within one half of the exact increment, so at octave `k - 3` within `2^k / 2`; in a legal
set of parameters each entry of INC3_ROM is the formula of R7 and so is that near. -/
def Obligations.TuningWordIsNearest : Prop :=
  (∀ (freq tickRate : ℝ) (c : Cadence) (k : Nat), 0 < freq → 0 < tickRate →
    |(tuningWord freq tickRate c : ℝ) * 2 ^ k - freq / 8 / (tickRate / c.factor) * 20 * 2 ^ 27 * 2 ^ k|
      ≤ 2 ^ k / 2) ∧
  (∀ (q : BuildParams) (n : Fin 13), q.Legal →
    (q.inc3[n].toNat : Int) =
      ⌊q.noteFreq[n] / 2 ^ 3 / (q.tickRate / q.cadence.factor) * 20 * 2 ^ 27 + 1 / 2⌋ ∧
    ∀ k : Nat,
      |(q.inc3[n].toNat : ℝ) * 2 ^ k
          - q.noteFreq[n] / 8 / (q.tickRate / q.cadence.factor) * 20 * 2 ^ 27 * 2 ^ k| ≤ 2 ^ k / 2)

/-! ## The buttons -/

/-- The transitions of the debounce machine (R135, R136, R137) from the elements `b` to `v`, with `D = d`. -/
abbrev DebounceTransition (d : BitVec 16) (b v : ButtonRegs) : Prop :=
  (b.dbState = .idle → b.edgeLatch = true → v.dbState = .check1 ∧ v.dbCnt = d - 1) ∧
  (b.dbState = .idle → b.edgeLatch = false → v.dbState = .idle ∧ v.dbCnt = b.dbCnt) ∧
  (b.dbState ≠ .idle → b.dbCnt ≠ 0 → v.dbState = b.dbState ∧ v.dbCnt = b.dbCnt - 1) ∧
  (b.dbState = .check1 → b.dbCnt = 0 → b.bs2 = false → v.dbState = .check2 ∧ v.dbCnt = d - 1) ∧
  (b.dbState = .check2 → b.dbCnt = 0 → b.bs2 = false → v.dbState = .idle ∧ v.dbCnt = 0) ∧
  (b.dbState ≠ .idle → b.dbCnt = 0 → b.bs2 = true → v.dbState = .idle ∧ v.dbCnt = 0)

/-- BTN_FALL_UP, BTN_FALL_DN, BTN_FALL_WV (R140): each completes; the synchronizer shifts, the edge is latched whatever
the machine takes (a set wins), the machine makes its transition, a confirmation sets the button's flag and
`displayDirty` through its mask, and nothing else changes. For every
state: that the operation does not look again whether S shows the falling edge that is its encoding is the model's choice
(log 13), and that it carries the whole effect of its unit is log 14. -/
def Obligations.FallingEdgeOperations : Prop :=
  ∀ (b : Button) (s : State), ∃ (v : ButtonRegs) (m : BitVec 5),
    exec (Instr.btnFall b) s = .next { s with
      regs := { (s.regs.setBtn b v) with flags := mergeFlags s.start.flags (s.masks.setBset b m) }
      masks := s.masks.setBset b m } ∧
    v.bs1 = s.ports.btn b ∧ v.bs2 = (s.start.btn b).bs1 ∧ v.bs3 = (s.start.btn b).bs2 ∧ v.edgeLatch = true ∧
    DebounceTransition s.cfg.debounceCycles (s.start.btn b) v ∧
    (∀ i : Fin 5, m.getLsbD i = true ↔
      ((s.start.btn b).dbState = .check2 ∧ (s.start.btn b).dbCnt = 0 ∧ (s.start.btn b).bs2 = false) ∧
      (i.val = b.index ∨ i = 4))

/-- R130, R134 to R137: in every cycle that is no reset cycle each button's synchronizer shifts and its machine makes
exactly the transition of its state. -/
def Obligations.ButtonLogicRunsEveryCycle : Prop :=
  ∀ (s : State) (p : Ports) (b : Button), p.rst = false →
    ∃ t, step (s.pushPorts p) = .next t ∧
      (t.regs.btn b).bs1 = p.btn b ∧ (t.regs.btn b).bs2 = (s.regs.btn b).bs1 ∧
      (t.regs.btn b).bs3 = (s.regs.btn b).bs2 ∧
      DebounceTransition s.cfg.debounceCycles (s.regs.btn b) (t.regs.btn b)

/-- R132, R133: the edge latch after a cycle: set by a synchronized falling edge, else kept unless IDLE takes it or a
confirmation discards it. -/
def Obligations.EdgeLatchRemembersUntilTaken : Prop :=
  ∀ (s : State) (p : Ports) (b : Button), p.rst = false →
    ∃ t, step (s.pushPorts p) = .next t ∧
      ((t.regs.btn b).edgeLatch = true ↔
        ((s.regs.btn b).bs3 = true ∧ (s.regs.btn b).bs2 = false) ∨
        ((s.regs.btn b).edgeLatch = true ∧ (s.regs.btn b).dbState ≠ .idle ∧ ¬ Confirms b s))

/-- R138: a confirmation sets the button's own flag and `displayDirty`, whatever the host does in the cycle, takes the
edge latch, and changes no parameter and not CTRL: without a host write they are as before, and in every cycle they are
what they are if the button has any other elements `v`, a machine that does not confirm among them. -/
def Obligations.ConfirmationSetsItsFlags : Prop :=
  ∀ (s : State) (p : Ports) (b : Button), p.rst = false → Confirms b s →
    ∃ t, step (s.pushPorts p) = .next t ∧ t.regs.flags.getLsbD b.index = true ∧
      t.regs.flags.getLsbD displayDirty = true ∧
      ((t.regs.btn b).edgeLatch = true → (s.regs.btn b).bs3 = true) ∧
      ((p.busValid && p.busWe) = false → t.regs.srdySrc = s.regs.srdySrc ∧ t.regs.note = s.regs.note ∧
        t.regs.octave = s.regs.octave ∧ t.regs.waveform = s.regs.waveform ∧ t.regs.volume = s.regs.volume) ∧
      (∀ v : ButtonRegs, ∃ u, step ((s.updRegs fun r => r.setBtn b v).pushPorts p) = .next u ∧
        t.regs.srdySrc = u.regs.srdySrc ∧ t.regs.note = u.regs.note ∧ t.regs.octave = u.regs.octave ∧
        t.regs.waveform = u.regs.waveform ∧ t.regs.volume = u.regs.volume)

/-- R139: a rejection returns the machine to IDLE and has no other effect: the edge latch is kept, the button's flag is
not set, and every element but the button's own, FLAGS whole and the parameters among them, is what it is if the button
has any other elements `v` that do not confirm, so that no flag is set that another rule of the cycle does not set. -/
def Obligations.RejectionHasNoSideEffect : Prop :=
  ∀ (s : State) (p : Ports) (b : Button), p.rst = false → (s.regs.btn b).dbState ≠ .idle →
    (s.regs.btn b).dbCnt = 0 → (s.regs.btn b).bs2 = true →
    ∃ t, step (s.pushPorts p) = .next t ∧ (t.regs.btn b).dbState = .idle ∧ (t.regs.btn b).dbCnt = 0 ∧
      (t.regs.btn b).edgeLatch = (s.regs.btn b).edgeLatch ∧
      (t.regs.flags.getLsbD b.index = true → s.regs.flags.getLsbD b.index = true) ∧
      (∀ v : ButtonRegs, ¬ Confirms b (s.updRegs fun r => r.setBtn b v) →
        ∃ u, step ((s.updRegs fun r => r.setBtn b v).pushPorts p) = .next u ∧
          t.regs = u.regs.setBtn b (t.regs.btn b))

/-- R42: no rule couples the state of two buttons: a button's elements after a cycle depend on its own elements, its
own line and `D` alone. -/
def Obligations.ButtonsDoNotInteract : Prop :=
  ∀ (s u : State) (p q : Ports) (b : Button), p.rst = false → q.rst = false →
    s.cfg.debounceCycles = u.cfg.debounceCycles → s.regs.btn b = u.regs.btn b → p.btn b = q.btn b →
    ∃ t v, step (s.pushPorts p) = .next t ∧ step (u.pushPorts q) = .next v ∧ t.regs.btn b = v.regs.btn b

/-- R147, R148, R149, R233: a line that was released, falls and stays low for `k` cycles is confirmed exactly once, in
the cycle `2D + 3` cycles after it falls, if `k` is at least `2D + 2`, and never otherwise; whatever else happens in
those cycles, but for a reset. -/
def Obligations.PressIsConfirmedOnceIfLongEnough : Prop :=
  ∀ (s t : State) (b : Button) (k n : Nat), s.cfg.Legal → s.regs.btn b = ButtonRegs.reset →
    n ≤ s.inputs.length →
    (∀ (j : Nat) (h : j < s.inputs.length),
      (s.inputs[j]).rst = false ∧ ((s.inputs[j]).btn b = false ↔ j < k)) →
    Runs n s t →
    (Confirms b t ↔
      n = 2 * s.cfg.debounceCycles.toNat + 3 ∧ 2 * s.cfg.debounceCycles.toNat + 2 ≤ k)

/-! ## The sensor unit -/

/-- `f` is FLAGS as a sensor-ready source leaves them in a cycle in which the masks `m` have been made (R50): bits 3 and 4
set, every other bit as the flags `g` at the start of the cycle and the other masks give it. -/
abbrev SensorReadyFlags (g : BitVec 5) (m : Masks) (f : BitVec 5) : Prop :=
  ∀ i : Fin 5, f.getLsbD i = true ↔
    (g.getLsbD i = true ∧ m.clr.getLsbD i = false) ∨ m.hset.getLsbD i = true ∨ i = 3 ∨ i = 4 ∨
    m.bsetUp.getLsbD i = true ∨ m.bsetDn.getLsbD i = true ∨ m.bsetWv.getLsbD i = true

/-- SRDY_EDGE (R143, with R141 and R145, which hold in its cycle): it completes, sets `sensorSampleReady` and
`displayDirty` through its mask, shifts the synchronizer, holds the poll counter at 0, and changes nothing else, the
other flags among it, whatever masks the cycle has made. For every state: that the operation does not look again whether
S shows the edge and the edge source that are its encoding is the model's choice (log 13), and that it carries the shift
and the hold of the poll counter is log 14. -/
def Obligations.SensorEdgeOperation : Prop :=
  ∀ s : State, ∃ f : BitVec 5, SensorReadyFlags s.start.flags s.masks f ∧
    exec .srdyEdge s = .next { s with
      regs := { s.regs with
        rs1 := s.ports.srdy, rs2 := s.start.rs1, rs3 := s.start.rs2, pollCnt := 0, flags := f }
      masks := { s.masks with sset := 0b11000 } }

/-- POLL_TICK (R144, with R141, which holds in its cycle): it completes; the `POLL_PERIOD`-th tick sets
`sensorSampleReady` and `displayDirty` and starts the count again, any other counts; nothing else changes, the other flags
among it, whatever masks the cycle has made. For every state: that the operation does not look again whether there is a
tick in poll mode, which is its encoding, is the model's choice (log 13), and that it carries the shift is log 14. -/
def Obligations.PollTickOperation : Prop :=
  ∀ s : State, ∃ f : BitVec 5, SensorReadyFlags s.start.flags s.masks f ∧
    exec .pollTick s =
      .next (if s.start.pollCnt + 1 = s.cfg.pollPeriod then
        { s with
          regs := { s.regs with
            rs1 := s.ports.srdy, rs2 := s.start.rs1, rs3 := s.start.rs2, pollCnt := 0, flags := f }
          masks := { s.masks with sset := 0b11000 } }
      else
        { s with regs := { s.regs with
            rs1 := s.ports.srdy, rs2 := s.start.rs1, rs3 := s.start.rs2
            pollCnt := s.start.pollCnt + 1 } })

/-- R141, R144, R145, R231: the sensor unit after a cycle: the synchronizer shifts; in edge mode the poll counter is 0, in
poll mode it counts ticks and starts again at the period. -/
def Obligations.SensorUnitAfterACycle : Prop :=
  ∀ (s : State) (p : Ports), p.rst = false →
    ∃ t, step (s.pushPorts p) = .next t ∧
      t.regs.rs1 = p.srdy ∧ t.regs.rs2 = s.regs.rs1 ∧ t.regs.rs3 = s.regs.rs2 ∧
      (s.regs.srdySrc = false → t.regs.pollCnt = 0) ∧
      (s.regs.srdySrc = true → p.tick = false → t.regs.pollCnt = s.regs.pollCnt) ∧
      (s.regs.srdySrc = true → p.tick = true →
        t.regs.pollCnt = if s.regs.pollCnt + 1 = s.cfg.pollPeriod then 0 else s.regs.pollCnt + 1)

/-- R144: in poll mode from POLL_CNT = 0 the counter is the number of ticks modulo the period, however many cycles without
a tick lie between them, and the `POLL_PERIOD`-th tick, and every multiple of it, leaves `sensorSampleReady` and
`displayDirty` set, whatever the host clears. -/
def Obligations.EveryPeriodOfTicksSetsSensorReady : Prop :=
  ∀ (s t : State) (n : Nat), s.cfg.Legal → s.regs.srdySrc = true → s.regs.pollCnt = 0 → n ≤ s.inputs.length →
    (∀ p ∈ s.inputs.take n, p.rst = false ∧ ¬ WritesTo p 0x0) → Runs n s t →
    t.regs.pollCnt.toNat = ticksIn n s % s.cfg.pollPeriod.toNat ∧
    (∀ p, (s.inputs.take n).getLast? = some p → p.tick = true → ticksIn n s % s.cfg.pollPeriod.toNat = 0 →
      t.regs.flags.getLsbD sensorSampleReady = true ∧ t.regs.flags.getLsbD displayDirty = true)

/-! ## The parameters -/

/-- The constraints of R6, and R7, on the machine's parameters `c`, a tick rate and the note frequencies, written out: the
rate and the frequencies are positive, DEBOUNCE_CYCLES and POLL_PERIOD are in their ranges, and every rounded increment is
in the range of a tuning word and is the entry of INC3_ROM. -/
abbrev MeetsR6AndR7 (c : Params) (tickRate : ℝ) (freq : Vector ℝ 13) : Prop :=
  0 < tickRate ∧ (1 ≤ c.debounceCycles.toNat ∧ c.debounceCycles.toNat ≤ 2 ^ 16 - 1) ∧
  (1 ≤ c.pollPeriod.toNat ∧ c.pollPeriod.toNat ≤ 255) ∧
  ∀ n : Fin 13, 0 < freq[n] ∧
    ∃ w : Nat, (w : Int) = ⌊freq[n] / 2 ^ 3 / (tickRate / c.cadence.factor) * 20 * 2 ^ 27 + 1 / 2⌋ ∧
      1 ≤ w ∧ w ≤ 2 ^ 32 - 1 ∧ c.inc3[n].toNat = w

/-- R6, R7: `BuildParams.Legal` is the constraints of R6 and R7; and the configurations that the machine calls legal are
exactly those that an integrator can derive: at every positive tick rate, a configuration is legal if and only if some
note frequencies meet the constraints with it. So a statement for every legal `cfg` is for every legal choice of all the
parameters of R6. -/
def Obligations.LegalConfigurationsAreTheDerivedOnes : Prop :=
  (∀ q : BuildParams, q.Legal ↔ MeetsR6AndR7 q.toParams q.tickRate q.noteFreq) ∧
  (∀ (c : Params) (tickRate : ℝ), 0 < tickRate →
    (c.Legal ↔ ∃ freq : Vector ℝ 13, MeetsR6AndR7 c tickRate freq))
end

