-- ==== Sys2Proof/Laws/Config.lean ====
section
/-! SUPPORT. Rounding half up (00_scope.md R10): the one lemma that says which integer it gives, and its value on
numbers that are integers already. -/

namespace Sys2Proof.Config

variable {K : Type} [Field K] [LinearOrder K] [FloorRing K]

theorem roundHalfUp_eq_iff (x : K) (n : Int) : roundHalfUp x = n ↔ (n : K) ≤ x + 1 / 2 ∧ x + 1 / 2 < n + 1 :=
  Int.floor_eq_iff

@[simp] theorem roundHalfUp_natCast [IsStrictOrderedRing K] (m : Nat) : roundHalfUp (m : K) = m := by
  rw [roundHalfUp_eq_iff]
  push_cast
  constructor <;> linarith

end Sys2Proof.Config
end

