-- ==== Sys2Proof/Laws/State.lean ====
section
/-! SUPPORT. One lemma per field per update of the state, true by rfl: no later proof unfolds a record update. -/

namespace Sys2Proof.Machine

open Sys2Proof

variable (s : State)

@[simp] theorem updRegs_regs (f : Regs → Regs) : (s.updRegs f).regs = f s.regs := rfl
@[simp] theorem updRegs_cfg (f : Regs → Regs) : (s.updRegs f).cfg = s.cfg := rfl
@[simp] theorem updRegs_start (f : Regs → Regs) : (s.updRegs f).start = s.start := rfl
@[simp] theorem updRegs_masks (f : Regs → Regs) : (s.updRegs f).masks = s.masks := rfl
@[simp] theorem updRegs_ports (f : Regs → Regs) : (s.updRegs f).ports = s.ports := rfl
@[simp] theorem updRegs_outs (f : Regs → Regs) : (s.updRegs f).outs = s.outs := rfl
@[simp] theorem updRegs_inputs (f : Regs → Regs) : (s.updRegs f).inputs = s.inputs := rfl

@[simp] theorem writeSrdySrc_regs (v : Bool) : (s.writeSrdySrc v).regs = { s.regs with srdySrc := v } := rfl
@[simp] theorem writeSrdySrc_cfg (v : Bool) : (s.writeSrdySrc v).cfg = s.cfg := rfl
@[simp] theorem writeSrdySrc_start (v : Bool) : (s.writeSrdySrc v).start = s.start := rfl
@[simp] theorem writeSrdySrc_masks (v : Bool) : (s.writeSrdySrc v).masks = s.masks := rfl
@[simp] theorem writeSrdySrc_ports (v : Bool) : (s.writeSrdySrc v).ports = s.ports := rfl
@[simp] theorem writeSrdySrc_outs (v : Bool) : (s.writeSrdySrc v).outs = s.outs := rfl
@[simp] theorem writeSrdySrc_inputs (v : Bool) : (s.writeSrdySrc v).inputs = s.inputs := rfl

@[simp] theorem writeNote_regs (v : BitVec 12) : (s.writeNote v).regs = { s.regs with note := v } := rfl
@[simp] theorem writeNote_cfg (v : BitVec 12) : (s.writeNote v).cfg = s.cfg := rfl
@[simp] theorem writeNote_start (v : BitVec 12) : (s.writeNote v).start = s.start := rfl
@[simp] theorem writeNote_masks (v : BitVec 12) : (s.writeNote v).masks = s.masks := rfl
@[simp] theorem writeNote_ports (v : BitVec 12) : (s.writeNote v).ports = s.ports := rfl
@[simp] theorem writeNote_outs (v : BitVec 12) : (s.writeNote v).outs = s.outs := rfl
@[simp] theorem writeNote_inputs (v : BitVec 12) : (s.writeNote v).inputs = s.inputs := rfl

@[simp] theorem writeOctave_regs (v : BitVec 3) : (s.writeOctave v).regs = { s.regs with octave := v } := rfl
@[simp] theorem writeOctave_cfg (v : BitVec 3) : (s.writeOctave v).cfg = s.cfg := rfl
@[simp] theorem writeOctave_start (v : BitVec 3) : (s.writeOctave v).start = s.start := rfl
@[simp] theorem writeOctave_masks (v : BitVec 3) : (s.writeOctave v).masks = s.masks := rfl
@[simp] theorem writeOctave_ports (v : BitVec 3) : (s.writeOctave v).ports = s.ports := rfl
@[simp] theorem writeOctave_outs (v : BitVec 3) : (s.writeOctave v).outs = s.outs := rfl
@[simp] theorem writeOctave_inputs (v : BitVec 3) : (s.writeOctave v).inputs = s.inputs := rfl

@[simp] theorem writeWaveform_regs (v : BitVec 2) : (s.writeWaveform v).regs = { s.regs with waveform := v } := rfl
@[simp] theorem writeWaveform_cfg (v : BitVec 2) : (s.writeWaveform v).cfg = s.cfg := rfl
@[simp] theorem writeWaveform_start (v : BitVec 2) : (s.writeWaveform v).start = s.start := rfl
@[simp] theorem writeWaveform_masks (v : BitVec 2) : (s.writeWaveform v).masks = s.masks := rfl
@[simp] theorem writeWaveform_ports (v : BitVec 2) : (s.writeWaveform v).ports = s.ports := rfl
@[simp] theorem writeWaveform_outs (v : BitVec 2) : (s.writeWaveform v).outs = s.outs := rfl
@[simp] theorem writeWaveform_inputs (v : BitVec 2) : (s.writeWaveform v).inputs = s.inputs := rfl

@[simp] theorem writeVolume_regs (v : BitVec 7) : (s.writeVolume v).regs = { s.regs with volume := v } := rfl
@[simp] theorem writeVolume_cfg (v : BitVec 7) : (s.writeVolume v).cfg = s.cfg := rfl
@[simp] theorem writeVolume_start (v : BitVec 7) : (s.writeVolume v).start = s.start := rfl
@[simp] theorem writeVolume_masks (v : BitVec 7) : (s.writeVolume v).masks = s.masks := rfl
@[simp] theorem writeVolume_ports (v : BitVec 7) : (s.writeVolume v).ports = s.ports := rfl
@[simp] theorem writeVolume_outs (v : BitVec 7) : (s.writeVolume v).outs = s.outs := rfl
@[simp] theorem writeVolume_inputs (v : BitVec 7) : (s.writeVolume v).inputs = s.inputs := rfl

@[simp] theorem writePhase_regs (v : BitVec 32) : (s.writePhase v).regs = { s.regs with phase := v } := rfl
@[simp] theorem writePhase_cfg (v : BitVec 32) : (s.writePhase v).cfg = s.cfg := rfl
@[simp] theorem writePhase_start (v : BitVec 32) : (s.writePhase v).start = s.start := rfl
@[simp] theorem writePhase_masks (v : BitVec 32) : (s.writePhase v).masks = s.masks := rfl
@[simp] theorem writePhase_ports (v : BitVec 32) : (s.writePhase v).ports = s.ports := rfl
@[simp] theorem writePhase_outs (v : BitVec 32) : (s.writePhase v).outs = s.outs := rfl
@[simp] theorem writePhase_inputs (v : BitVec 32) : (s.writePhase v).inputs = s.inputs := rfl

@[simp] theorem writeOutCode_regs (v : BitVec 12) : (s.writeOutCode v).regs = { s.regs with outCode := v } := rfl
@[simp] theorem writeOutCode_cfg (v : BitVec 12) : (s.writeOutCode v).cfg = s.cfg := rfl
@[simp] theorem writeOutCode_start (v : BitVec 12) : (s.writeOutCode v).start = s.start := rfl
@[simp] theorem writeOutCode_masks (v : BitVec 12) : (s.writeOutCode v).masks = s.masks := rfl
@[simp] theorem writeOutCode_ports (v : BitVec 12) : (s.writeOutCode v).ports = s.ports := rfl
@[simp] theorem writeOutCode_outs (v : BitVec 12) : (s.writeOutCode v).outs = s.outs := rfl
@[simp] theorem writeOutCode_inputs (v : BitVec 12) : (s.writeOutCode v).inputs = s.inputs := rfl

@[simp] theorem writeLoad_regs (v : Bool) : (s.writeLoad v).regs = { s.regs with load := v } := rfl
@[simp] theorem writeLoad_cfg (v : Bool) : (s.writeLoad v).cfg = s.cfg := rfl
@[simp] theorem writeLoad_start (v : Bool) : (s.writeLoad v).start = s.start := rfl
@[simp] theorem writeLoad_masks (v : Bool) : (s.writeLoad v).masks = s.masks := rfl
@[simp] theorem writeLoad_ports (v : Bool) : (s.writeLoad v).ports = s.ports := rfl
@[simp] theorem writeLoad_outs (v : Bool) : (s.writeLoad v).outs = s.outs := rfl
@[simp] theorem writeLoad_inputs (v : Bool) : (s.writeLoad v).inputs = s.inputs := rfl

@[simp] theorem writeTdiv_regs (v : Bool) : (s.writeTdiv v).regs = { s.regs with tdiv := v } := rfl
@[simp] theorem writeTdiv_cfg (v : Bool) : (s.writeTdiv v).cfg = s.cfg := rfl
@[simp] theorem writeTdiv_start (v : Bool) : (s.writeTdiv v).start = s.start := rfl
@[simp] theorem writeTdiv_masks (v : Bool) : (s.writeTdiv v).masks = s.masks := rfl
@[simp] theorem writeTdiv_ports (v : Bool) : (s.writeTdiv v).ports = s.ports := rfl
@[simp] theorem writeTdiv_outs (v : Bool) : (s.writeTdiv v).outs = s.outs := rfl
@[simp] theorem writeTdiv_inputs (v : Bool) : (s.writeTdiv v).inputs = s.inputs := rfl

@[simp] theorem writePollCnt_regs (v : BitVec 8) : (s.writePollCnt v).regs = { s.regs with pollCnt := v } := rfl
@[simp] theorem writePollCnt_cfg (v : BitVec 8) : (s.writePollCnt v).cfg = s.cfg := rfl
@[simp] theorem writePollCnt_start (v : BitVec 8) : (s.writePollCnt v).start = s.start := rfl
@[simp] theorem writePollCnt_masks (v : BitVec 8) : (s.writePollCnt v).masks = s.masks := rfl
@[simp] theorem writePollCnt_ports (v : BitVec 8) : (s.writePollCnt v).ports = s.ports := rfl
@[simp] theorem writePollCnt_outs (v : BitVec 8) : (s.writePollCnt v).outs = s.outs := rfl
@[simp] theorem writePollCnt_inputs (v : BitVec 8) : (s.writePollCnt v).inputs = s.inputs := rfl

@[simp] theorem writeRs_regs (a b c : Bool) :
    (s.writeRs a b c).regs = { s.regs with rs1 := a, rs2 := b, rs3 := c } := rfl
@[simp] theorem writeRs_cfg (a b c : Bool) : (s.writeRs a b c).cfg = s.cfg := rfl
@[simp] theorem writeRs_start (a b c : Bool) : (s.writeRs a b c).start = s.start := rfl
@[simp] theorem writeRs_masks (a b c : Bool) : (s.writeRs a b c).masks = s.masks := rfl
@[simp] theorem writeRs_ports (a b c : Bool) : (s.writeRs a b c).ports = s.ports := rfl
@[simp] theorem writeRs_outs (a b c : Bool) : (s.writeRs a b c).outs = s.outs := rfl
@[simp] theorem writeRs_inputs (a b c : Bool) : (s.writeRs a b c).inputs = s.inputs := rfl

@[simp] theorem writeButton_regs (b : Button) (v : ButtonRegs) :
    (s.writeButton b v).regs = s.regs.setBtn b v := rfl
@[simp] theorem writeButton_cfg (b : Button) (v : ButtonRegs) : (s.writeButton b v).cfg = s.cfg := rfl
@[simp] theorem writeButton_start (b : Button) (v : ButtonRegs) : (s.writeButton b v).start = s.start := rfl
@[simp] theorem writeButton_masks (b : Button) (v : ButtonRegs) : (s.writeButton b v).masks = s.masks := rfl
@[simp] theorem writeButton_ports (b : Button) (v : ButtonRegs) : (s.writeButton b v).ports = s.ports := rfl
@[simp] theorem writeButton_outs (b : Button) (v : ButtonRegs) : (s.writeButton b v).outs = s.outs := rfl
@[simp] theorem writeButton_inputs (b : Button) (v : ButtonRegs) : (s.writeButton b v).inputs = s.inputs := rfl

@[simp] theorem driveRdata_outs (v : Word) : (s.driveRdata v).outs = { s.outs with rdata := v } := rfl
@[simp] theorem driveRdata_cfg (v : Word) : (s.driveRdata v).cfg = s.cfg := rfl
@[simp] theorem driveRdata_regs (v : Word) : (s.driveRdata v).regs = s.regs := rfl
@[simp] theorem driveRdata_start (v : Word) : (s.driveRdata v).start = s.start := rfl
@[simp] theorem driveRdata_masks (v : Word) : (s.driveRdata v).masks = s.masks := rfl
@[simp] theorem driveRdata_ports (v : Word) : (s.driveRdata v).ports = s.ports := rfl
@[simp] theorem driveRdata_inputs (v : Word) : (s.driveRdata v).inputs = s.inputs := rfl

@[simp] theorem withMasks_regs (m : Masks) :
    (s.withMasks m).regs = { s.regs with flags := mergeFlags s.start.flags m } := rfl
@[simp] theorem withMasks_masks (m : Masks) : (s.withMasks m).masks = m := rfl
@[simp] theorem withMasks_cfg (m : Masks) : (s.withMasks m).cfg = s.cfg := rfl
@[simp] theorem withMasks_start (m : Masks) : (s.withMasks m).start = s.start := rfl
@[simp] theorem withMasks_ports (m : Masks) : (s.withMasks m).ports = s.ports := rfl
@[simp] theorem withMasks_outs (m : Masks) : (s.withMasks m).outs = s.outs := rfl
@[simp] theorem withMasks_inputs (m : Masks) : (s.withMasks m).inputs = s.inputs := rfl

@[simp] theorem setHostMasks_regs (c h : BitVec 5) :
    (s.setHostMasks c h).regs = { s.regs with flags := mergeFlags s.start.flags ({ s.masks with clr := c, hset := h }) } := rfl
@[simp] theorem setHostMasks_masks (c h : BitVec 5) : (s.setHostMasks c h).masks = { s.masks with clr := c, hset := h } := rfl
@[simp] theorem setHostMasks_cfg (c h : BitVec 5) : (s.setHostMasks c h).cfg = s.cfg := rfl
@[simp] theorem setHostMasks_start (c h : BitVec 5) : (s.setHostMasks c h).start = s.start := rfl
@[simp] theorem setHostMasks_ports (c h : BitVec 5) : (s.setHostMasks c h).ports = s.ports := rfl
@[simp] theorem setHostMasks_outs (c h : BitVec 5) : (s.setHostMasks c h).outs = s.outs := rfl
@[simp] theorem setHostMasks_inputs (c h : BitVec 5) : (s.setHostMasks c h).inputs = s.inputs := rfl

@[simp] theorem setSset_regs (m : BitVec 5) :
    (s.setSset m).regs = { s.regs with flags := mergeFlags s.start.flags ({ s.masks with sset := m }) } := rfl
@[simp] theorem setSset_masks (m : BitVec 5) : (s.setSset m).masks = { s.masks with sset := m } := rfl
@[simp] theorem setSset_cfg (m : BitVec 5) : (s.setSset m).cfg = s.cfg := rfl
@[simp] theorem setSset_start (m : BitVec 5) : (s.setSset m).start = s.start := rfl
@[simp] theorem setSset_ports (m : BitVec 5) : (s.setSset m).ports = s.ports := rfl
@[simp] theorem setSset_outs (m : BitVec 5) : (s.setSset m).outs = s.outs := rfl
@[simp] theorem setSset_inputs (m : BitVec 5) : (s.setSset m).inputs = s.inputs := rfl

@[simp] theorem setBset_regs (b : Button) (m : BitVec 5) :
    (s.setBset b m).regs = { s.regs with flags := mergeFlags s.start.flags (s.masks.setBset b m) } := rfl
@[simp] theorem setBset_masks (b : Button) (m : BitVec 5) : (s.setBset b m).masks = s.masks.setBset b m := rfl
@[simp] theorem setBset_cfg (b : Button) (m : BitVec 5) : (s.setBset b m).cfg = s.cfg := rfl
@[simp] theorem setBset_start (b : Button) (m : BitVec 5) : (s.setBset b m).start = s.start := rfl
@[simp] theorem setBset_ports (b : Button) (m : BitVec 5) : (s.setBset b m).ports = s.ports := rfl
@[simp] theorem setBset_outs (b : Button) (m : BitVec 5) : (s.setBset b m).outs = s.outs := rfl
@[simp] theorem setBset_inputs (b : Button) (m : BitVec 5) : (s.setBset b m).inputs = s.inputs := rfl

@[simp] theorem enterReset_regs : s.enterReset.regs = Regs.reset s.cfg := rfl
@[simp] theorem enterReset_masks : s.enterReset.masks = Masks.none := rfl
@[simp] theorem enterReset_outs : s.enterReset.outs = { s.outs with rdata := 0 } := rfl
@[simp] theorem enterReset_cfg : s.enterReset.cfg = s.cfg := rfl
@[simp] theorem enterReset_start : s.enterReset.start = s.start := rfl
@[simp] theorem enterReset_ports : s.enterReset.ports = s.ports := rfl
@[simp] theorem enterReset_inputs : s.enterReset.inputs = s.inputs := rfl

/-! ## The buttons of a register file -/

@[simp] theorem setBtn_btn_same (r : Regs) (b : Button) (v : ButtonRegs) : (r.setBtn b v).btn b = v := by
  cases b <;> rfl

theorem setBtn_btn_other (r : Regs) {b b' : Button} (v : ButtonRegs) (h : b' ≠ b) :
    (r.setBtn b v).btn b' = r.btn b' := by
  cases b <;> cases b' <;> first | rfl | exact absurd rfl h

@[simp] theorem setBtn_srdySrc (r : Regs) (b : Button) (v : ButtonRegs) : (r.setBtn b v).srdySrc = r.srdySrc := by cases b <;> rfl
@[simp] theorem setBtn_note (r : Regs) (b : Button) (v : ButtonRegs) : (r.setBtn b v).note = r.note := by cases b <;> rfl
@[simp] theorem setBtn_octave (r : Regs) (b : Button) (v : ButtonRegs) : (r.setBtn b v).octave = r.octave := by cases b <;> rfl
@[simp] theorem setBtn_waveform (r : Regs) (b : Button) (v : ButtonRegs) : (r.setBtn b v).waveform = r.waveform := by cases b <;> rfl
@[simp] theorem setBtn_volume (r : Regs) (b : Button) (v : ButtonRegs) : (r.setBtn b v).volume = r.volume := by cases b <;> rfl
@[simp] theorem setBtn_phase (r : Regs) (b : Button) (v : ButtonRegs) : (r.setBtn b v).phase = r.phase := by cases b <;> rfl
@[simp] theorem setBtn_outCode (r : Regs) (b : Button) (v : ButtonRegs) : (r.setBtn b v).outCode = r.outCode := by cases b <;> rfl
@[simp] theorem setBtn_load (r : Regs) (b : Button) (v : ButtonRegs) : (r.setBtn b v).load = r.load := by cases b <;> rfl
@[simp] theorem setBtn_tdiv (r : Regs) (b : Button) (v : ButtonRegs) : (r.setBtn b v).tdiv = r.tdiv := by cases b <;> rfl
@[simp] theorem setBtn_pollCnt (r : Regs) (b : Button) (v : ButtonRegs) : (r.setBtn b v).pollCnt = r.pollCnt := by cases b <;> rfl
@[simp] theorem setBtn_flags (r : Regs) (b : Button) (v : ButtonRegs) : (r.setBtn b v).flags = r.flags := by cases b <;> rfl
@[simp] theorem setBtn_rs1 (r : Regs) (b : Button) (v : ButtonRegs) : (r.setBtn b v).rs1 = r.rs1 := by cases b <;> rfl
@[simp] theorem setBtn_rs2 (r : Regs) (b : Button) (v : ButtonRegs) : (r.setBtn b v).rs2 = r.rs2 := by cases b <;> rfl
@[simp] theorem setBtn_rs3 (r : Regs) (b : Button) (v : ButtonRegs) : (r.setBtn b v).rs3 = r.rs3 := by cases b <;> rfl

end Sys2Proof.Machine
end

