-- ==== Sys2Proof/Laws/Ops.lean ====
section
/-! SUPPORT. One lemma per shared operation that says once everything it does to the state. -/

namespace Sys2Proof.Machine

open Sys2Proof Sys2Proof.Config

variable (s : State)

/-- The six fields an operation never touches, but for `masks` and `outs`. -/
theorem ddsEffect_spec (tick : Bool) :
    ddsEffect tick s =
      { s with regs := { s.regs with
          tdiv := if tick && s.cfg.cadence == .two then !s.start.tdiv else s.regs.tdiv
          load := sampleNow s.cfg s.start tick
          outCode := if sampleNow s.cfg s.start tick then sampleCode s.cfg s.start else s.regs.outCode
          phase := if sampleNow s.cfg s.start tick then nextPhase s.cfg s.start else s.regs.phase } } := by
  unfold ddsEffect State.stepDivider sampleNow
  cases s.cfg.cadence <;> cases tick <;> cases s.start.tdiv <;> rfl

theorem buttonEffect_spec (b : Button) (fall : Bool) :
    buttonEffect b fall s =
      { s with
        regs := { (s.regs.setBtn b
            (nextButton s.cfg.debounceCycles fall (s.ports.btn b) (s.start.btn b))) with
          flags := mergeFlags s.start.flags (s.masks.setBset b
            (if (debounce s.cfg.debounceCycles (s.start.btn b)).confirm then buttonFlags b else 0)) }
        masks := s.masks.setBset b
            (if (debounce s.cfg.debounceCycles (s.start.btn b)).confirm then buttonFlags b else 0) } := rfl

theorem quietSensor_spec :
    quietSensor s =
      { s with regs := { s.regs with
          rs1 := s.ports.srdy, rs2 := s.start.rs1, rs3 := s.start.rs2
          pollCnt := if s.start.srdySrc then s.regs.pollCnt else 0 } } := by
  unfold quietSensor
  cases s.start.srdySrc <;> rfl

theorem pollStep_spec :
    s.pollStep =
      if s.start.pollCnt + 1 = s.cfg.pollPeriod then
        { s with
          regs := { s.regs with
            pollCnt := 0, flags := mergeFlags s.start.flags { s.masks with sset := sensorFlags } }
          masks := { s.masks with sset := sensorFlags } }
      else { s with regs := { s.regs with pollCnt := s.start.pollCnt + 1 } } := by
  by_cases h : s.start.pollCnt + 1 = s.cfg.pollPeriod
  · rw [if_pos h, State.pollStep, if_pos h]
    rfl
  · rw [if_neg h, State.pollStep, if_neg h]
    rfl

theorem command_spec (u d w : Bool) :
    command u d w s =
      { s with
        regs := { s.regs with
          octave := octaveStep s.start.octave u d, waveform := waveStep s.start.waveform w }
        outs := { s.outs with rdata := 0 } } := by
  simp only [command, State.writeOctave, State.writeWaveform, State.driveRdata, State.updRegs]

theorem setHostMasks_spec (c h : BitVec 5) :
    s.setHostMasks c h =
      { s with
        regs := { s.regs with flags := mergeFlags s.start.flags { s.masks with clr := c, hset := h } }
        masks := { s.masks with clr := c, hset := h } } := rfl

/-! ## The flag merge -/

@[simp] theorem mergeFlags_none (f : BitVec 5) : mergeFlags f Masks.none = f := by
  revert f
  decide

/-- The merge bit by bit (10_state.md R50): a set wins over a clear. -/
theorem mergeFlags_getLsbD (f : BitVec 5) (m : Masks) (i : Nat) :
    (mergeFlags f m).getLsbD i =
      ((f.getLsbD i && !m.clr.getLsbD i) || m.hset.getLsbD i || m.sset.getLsbD i || m.bsetUp.getLsbD i
        || m.bsetDn.getLsbD i || m.bsetWv.getLsbD i) := by
  by_cases h : i < 5
  · simp [mergeFlags, h]
  · have hz : ∀ v : BitVec 5, v.getLsbD i = false := fun v => BitVec.getLsbD_of_ge v i (by omega)
    simp [hz]

/-! ## The debounce machine -/

/-- The confirmation happens exactly at the second re-check of an asserted line (41_input_bridge.md R137). -/
theorem debounce_confirm_iff (d : BitVec 16) (b : ButtonRegs) :
    (debounce d b).confirm = true ↔ b.dbState = .check2 ∧ b.dbCnt = 0 ∧ b.bs2 = false := by
  unfold debounce
  cases b.dbState <;> by_cases h : b.dbCnt = 0#16 <;> cases b.bs2 <;> cases b.edgeLatch <;> simp [h]

/-- The edge latch is taken when IDLE starts a candidate and at a confirmation (41_input_bridge.md R133). -/
theorem debounce_take_iff (d : BitVec 16) (b : ButtonRegs) :
    (debounce d b).take = true ↔
      (b.dbState = .idle ∧ b.edgeLatch = true) ∨ (b.dbState = .check2 ∧ b.dbCnt = 0 ∧ b.bs2 = false) := by
  unfold debounce
  cases b.dbState <;> by_cases h : b.dbCnt = 0#16 <;> cases b.bs2 <;> cases b.edgeLatch <;> simp [h]

/-! ## Clamping -/

theorem clamp_le {v lo hi : Int} (h : lo ≤ hi) : lo ≤ clamp v lo hi ∧ clamp v lo hi ≤ hi := by
  unfold clamp
  omega

theorem clamp_of_mem {v lo hi : Int} (h₁ : lo ≤ v) (h₂ : v ≤ hi) : clamp v lo hi = v := by
  unfold clamp
  omega

/-- A non-negative integer that fits is stored as it is. -/
theorem toNat_ofInt_of_fits {n : Nat} {v : Int} (h₀ : 0 ≤ v) (h₁ : v < 2 ^ n) :
    ((BitVec.ofInt n v).toNat : Int) = v := by
  rw [BitVec.toNat_ofInt]
  have : (v % ((2 ^ n : Nat) : Int)) = v := by
    apply Int.emod_eq_of_lt h₀
    exact_mod_cast h₁
  rw [this]
  omega

end Sys2Proof.Machine
end

