-- ==== Sys2Proof/Laws/Cycle.lean ====
section
/-! SUPPORT. What the units of a cycle do, said once: the operation each unit's bits decode to, the effect it has, and
how a run of operations splits. -/

namespace Sys2Proof.Machine

open Sys2Proof Sys2Proof.Config

/-! ## The start and the end of a cycle -/

section
variable (s : State)
@[simp] theorem beginCycle_cfg : (beginCycle s).cfg = s.cfg := rfl
@[simp] theorem beginCycle_regs : (beginCycle s).regs = s.regs := rfl
@[simp] theorem beginCycle_start : (beginCycle s).start = s.regs := rfl
@[simp] theorem beginCycle_masks : (beginCycle s).masks = Masks.none := rfl
@[simp] theorem beginCycle_ports : (beginCycle s).ports = s.nextPorts := rfl
@[simp] theorem beginCycle_outs : (beginCycle s).outs = s.regs.outputs := rfl
@[simp] theorem beginCycle_inputs : (beginCycle s).inputs = s.inputs.tail := rfl
@[simp] theorem endCycle_cfg : (endCycle s).cfg = s.cfg := rfl
@[simp] theorem endCycle_regs : (endCycle s).regs = s.regs := rfl
@[simp] theorem endCycle_start : (endCycle s).start = s.regs := rfl
@[simp] theorem endCycle_masks : (endCycle s).masks = Masks.none := rfl
@[simp] theorem endCycle_ports : (endCycle s).ports = s.ports := rfl
@[simp] theorem endCycle_outs : (endCycle s).outs = s.outs := rfl
@[simp] theorem endCycle_inputs : (endCycle s).inputs = s.inputs := rfl
@[simp] theorem pushPorts_nextPorts (p : Ports) : (s.pushPorts p).nextPorts = p := rfl
@[simp] theorem pushPorts_regs (p : Ports) : (s.pushPorts p).regs = s.regs := rfl
@[simp] theorem pushPorts_cfg (p : Ports) : (s.pushPorts p).cfg = s.cfg := rfl
@[simp] theorem pushPorts_inputs (p : Ports) : (s.pushPorts p).inputs = p :: s.inputs := rfl
end

/-! ## Which operation a unit's bits are -/

theorem decode_rstBits (s : State) :
    decode (rstBits s) = if s.ports.rst then .ok .reset else .error .notReset := by
  unfold rstBits
  cases s.ports.rst <;> rfl

theorem unitOp_host (s : State) (h : s.ports.rst = false) :
    unitOp .host (hostBits s) =
      .op (if s.ports.busValid then decodeHost s.ports.transaction else .nop) := by
  unfold hostBits
  rw [h]
  cases s.ports.busValid <;> rfl

theorem unitOp_dds (s : State) (h : s.ports.rst = false) :
    unitOp .dds (tickBits s) = if s.ports.tick then .op .tick else .quiet .dds := by
  unfold tickBits
  rw [h]
  cases s.ports.tick <;> rfl

theorem unitOp_button (s : State) (b : Button) (h : s.ports.rst = false) :
    unitOp (.button b) (btnBits b s) =
      if (s.start.btn b).fall then .op (Instr.btnFall b) else .quiet (.button b) := by
  unfold btnBits ButtonRegs.fall
  rw [h]
  cases (s.start.btn b).bs3 <;> cases (s.start.btn b).bs2 <;> rfl

theorem sensorOp_eq (s : State) (h : s.ports.rst = false) :
    sensorOp s =
      if s.start.srdySrc then (if s.ports.tick then .op .pollTick else .quiet .sensor)
      else (if readyEdge s.cfg s.start then .op .srdyEdge else .quiet .sensor) := by
  unfold sensorOp srdyBits pollBits readyEdge
  rw [h]
  cases s.start.srdySrc <;> cases s.ports.tick <;> cases sensorActive s.cfg s.start.rs3 <;>
    cases sensorActive s.cfg s.start.rs2 <;> rfl

/-- A reset cycle does nothing but RESET (70_reset_and_hazards.md R220). -/
theorem operations_reset (s : State) (h : s.ports.rst = true) : operations s = [.op .reset] := by
  unfold operations
  rw [decode_rstBits, h]
  rfl

/-- Every other cycle runs the six units (10_state.md R50). -/
theorem operations_cycle (s : State) (h : s.ports.rst = false) :
    operations s =
      [unitOp .host (hostBits s), unitOp .dds (tickBits s), sensorOp s, unitOp (.button .up) (btnBits .up s),
       unitOp (.button .dn) (btnBits .dn s), unitOp (.button .wv) (btnBits .wv s)] := by
  unfold operations
  rw [decode_rstBits, h]
  rfl

/-! ## What a unit does -/

/-- The sensor unit's effect in a cycle with the ports and S of `c` (41_input_bridge.md R141 to R145). -/
def sensorEffect (c s : State) : State :=
  if c.start.srdySrc then (if c.ports.tick then s.shiftSensor.pollStep else quietSensor s)
  else
    (if readyEdge c.cfg c.start then (s.shiftSensor.writePollCnt 0).setSset sensorFlags else quietSensor s)

theorem runOp_dds (c s : State) (h : c.ports.rst = false) :
    runOp (unitOp .dds (tickBits c)) s = .next (ddsEffect c.ports.tick s) := by
  rw [unitOp_dds c h]
  cases c.ports.tick <;> rfl

theorem runOp_button (c s : State) (b : Button) (h : c.ports.rst = false) :
    runOp (unitOp (.button b) (btnBits b c)) s = .next (buttonEffect b (c.start.btn b).fall s) := by
  rw [unitOp_button c b h]
  cases (c.start.btn b).fall <;> cases b <;> rfl

theorem runOp_sensor (c s : State) (h : c.ports.rst = false) :
    runOp (sensorOp c) s = .next (sensorEffect c s) := by
  rw [sensorOp_eq c h]
  unfold sensorEffect
  cases c.start.srdySrc <;> cases c.ports.tick <;> cases readyEdge c.cfg c.start <;> rfl

theorem runOp_host (c s : State) (h : c.ports.rst = false) :
    runOp (unitOp .host (hostBits c)) s =
      exec (if c.ports.busValid then decodeHost c.ports.transaction else .nop) s := by
  rw [unitOp_host c h]
  rfl

@[simp] theorem runOps_nil (s : State) : runOps [] s = .next s := rfl

theorem runOps_cons_next {c : CycleOp} {cs : List CycleOp} {s t : State} (h : runOp c s = .next t) :
    runOps (c :: cs) s = runOps cs t := by
  simp [runOps, h]

theorem step_of_runOps {s t : State} (h : runOps (operations (beginCycle s)) (beginCycle s) = .next t) :
    step s = .next (endCycle t) := by
  simp [step, h]

/-! ## What no operation touches -/

/-- No operation changes the configuration, S, the ports or the inputs to come. -/
theorem exec_keeps {i : Instr} {s t : State} (h : exec i s = .next t) :
    t.cfg = s.cfg ∧ t.start = s.start ∧ t.ports = s.ports ∧ t.inputs = s.inputs := by
  cases i <;> injection h with h <;> subst h <;>
    first
    | exact ⟨rfl, rfl, rfl, rfl⟩
    | (rw [ddsEffect_spec]; exact ⟨rfl, rfl, rfl, rfl⟩)
    | (rw [pollStep_spec]; split <;> exact ⟨rfl, rfl, rfl, rfl⟩)

end Sys2Proof.Machine
end

