-- ==== Sys2Proof/Laws/Decode.lean ====
section
/-! SUPPORT. The fields of a transaction word (30_encoding.md R81): a word is its three fields, and decoding a word made
of fields decodes the fields. -/

namespace Sys2Proof

/-- The bits of a transaction word: DATA, then ADDR, then W (30_encoding.md R81). -/
theorem hostWord_getLsbD (we : Bool) (addr : RegAddr) (data : Word) (i : Nat) :
    (hostWord we addr data).getLsbD i =
      if i < 32 then data.getLsbD i
      else if i < 36 then addr.getLsbD (i - 32) else (decide (i = 36) && we) := by
  unfold hostWord
  rw [BitVec.getLsbD_append, BitVec.getLsbD_append]
  by_cases h₁ : i < 32
  · simp [h₁]
  · by_cases h₂ : i < 36
    · have : i - 32 < 4 := by omega
      simp [h₁, h₂, this]
    · have : ¬ i - 32 < 4 := by omega
      by_cases h₃ : i = 36
      · subst h₃
        simp
      · have h₄ : i - 32 - 4 ≠ 0 := by omega
        simp [h₁, h₂, this, h₃, BitVec.getLsbD_ofBool, h₄]

theorem wField_hostWord (we : Bool) (addr : RegAddr) (data : Word) : wField (hostWord we addr data) = we := by
  rw [wField, hostWord_getLsbD]
  simp

theorem addrField_hostWord (we : Bool) (addr : RegAddr) (data : Word) :
    addrField (hostWord we addr data) = addr := by
  apply BitVec.eq_of_getLsbD_eq
  intro i hi
  rw [addrField, BitVec.getLsbD_extractLsb', hostWord_getLsbD]
  have h₁ : ¬ 32 + i < 32 := by omega
  have h₂ : 32 + i < 36 := by omega
  simp [hi, h₁, h₂]

theorem dataField_hostWord (we : Bool) (addr : RegAddr) (data : Word) :
    dataField (hostWord we addr data) = data := by
  apply BitVec.eq_of_getLsbD_eq
  intro i hi
  rw [dataField, BitVec.getLsbD_extractLsb', hostWord_getLsbD]
  simp [hi]

/-- Every transaction word is the word of its three fields. -/
theorem hostWord_eta (w : HostWord) : hostWord (wField w) (addrField w) (dataField w) = w := by
  apply BitVec.eq_of_getLsbD_eq
  intro i hi
  rw [hostWord_getLsbD]
  by_cases h₁ : i < 32
  · simp [h₁, dataField]
  · by_cases h₂ : i < 36
    · have h₃ : i - 32 < 4 := by omega
      have h₄ : 32 + (i - 32) = i := by omega
      rw [if_neg h₁, if_pos h₂, addrField, BitVec.getLsbD_extractLsb', h₄]
      simp [h₃]
    · have h₅ : i = 36 := by omega
      subst h₅
      simp [wField]

/-- Decoding a word made of its fields (30_encoding.md R84). -/
theorem decodeHost_hostWord (we : Bool) (addr : RegAddr) (data : Word) :
    decodeHost (hostWord we addr data) = if we then decodeWrite addr data else decodeRead addr := by
  rw [decodeHost, wField_hostWord, addrField_hostWord, dataField_hostWord]

/-- The word with its DATA masked off: what the `mask` of most rows of the opcode table keeps. -/
theorem hostWord_and_select (we : Bool) (addr : RegAddr) (data : Word) :
    hostWord we addr data &&& 0x1F00000000#37 = hostWord we addr 0 := by
  apply BitVec.eq_of_getLsbD_eq
  intro i hi
  have hm : (0x1F00000000#37).getLsbD i = decide (32 ≤ i) := by
    revert hi
    revert i
    decide
  rw [BitVec.getLsbD_and, hm, hostWord_getLsbD, hostWord_getLsbD]
  by_cases h₁ : i < 32
  · have h₂ : ¬ 32 ≤ i := by omega
    simp [h₁, h₂]
  · have h₂ : 32 ≤ i := by omega
    simp [h₁, h₂]

end Sys2Proof
end

