-- ==== Sys2Proof/Laws/PerInstr.lean ====
section
/-! SUPPORT. Per-instruction statements: the bits `encode` gives an operation fit its row of spec/opcode_table.json, whose
match, mask or bit string is copied here as the table has it. -/

namespace Sys2Proof.Laws.MatchesRow

open Sys2Proof

/-- A row of the opcode table: `match` and `mask` of a transaction word, or the exact bits of a port vector. -/
inductive Row where
  | host (pat mask : HostWord)
  | ports (w : OpWord)

/-- The row of an operation, from spec/opcode_table.json. -/
def row : Instr → Row
  | .rdCtrl => .host 0x0000000000#37 0x1F00000000#37
  | .wrCtrl _ => .host 0x1000000000#37 0x1F00000000#37
  | .rdNote => .host 0x0100000000#37 0x1F00000000#37
  | .wrNote _ => .host 0x1100000000#37 0x1F00000000#37
  | .rdOctave => .host 0x0200000000#37 0x1F00000000#37
  | .wrOctave _ => .host 0x1200000000#37 0x1F00000000#37
  | .rdWaveform => .host 0x0300000000#37 0x1F00000000#37
  | .wrWaveform _ => .host 0x1300000000#37 0x1F00000000#37
  | .rdVolume => .host 0x0400000000#37 0x1F00000000#37
  | .wrVolume _ => .host 0x1400000000#37 0x1F00000000#37
  | .rdCmd => .host 0x0500000000#37 0x1F00000000#37
  | .wrCmd _ => .host 0x1500000000#37 0x1F00000000#37
  | .rdFlags => .host 0x0600000000#37 0x1F00000000#37
  | .wrFlags _ => .host 0x1600000000#37 0x1F00000000#37
  | .rdFlagsSet => .host 0x0700000000#37 0x1F00000000#37
  | .wrFlagsSet _ => .host 0x1700000000#37 0x1F00000000#37
  | .rdPhase => .host 0x0800000000#37 0x1F00000000#37
  | .wrPhase _ => .host 0x1800000000#37 0x1F00000000#37
  | .rdOutCode => .host 0x0900000000#37 0x1F00000000#37
  | .wrOutCode _ => .host 0x1900000000#37 0x1F00000000#37
  | .rdStatus => .host 0x0A00000000#37 0x1F00000000#37
  | .wrStatus _ => .host 0x1A00000000#37 0x1F00000000#37
  | .rdRsvd11 => .host 0x0B00000000#37 0x1F00000000#37
  | .wrRsvd11 => .host 0x1B00000000#37 0x1F00000000#37
  | .rdRsvd12 => .host 0x0C00000000#37 0x1F00000000#37
  | .wrRsvd12 => .host 0x1C00000000#37 0x1F00000000#37
  | .rdRsvd13 => .host 0x0D00000000#37 0x1F00000000#37
  | .wrRsvd13 => .host 0x1D00000000#37 0x1F00000000#37
  | .rdRsvd14 => .host 0x0E00000000#37 0x1F00000000#37
  | .wrRsvd14 => .host 0x1E00000000#37 0x1F00000000#37
  | .rdRsvd15 => .host 0x0F00000000#37 0x1F00000000#37
  | .wrRsvd15 => .host 0x1F00000000#37 0x1F00000000#37
  | .wrCmdOctUp => .host 0x1500000001#37 0x1F00000007#37
  | .wrCmdOctDown => .host 0x1500000002#37 0x1F00000007#37
  | .wrCmdWaveNext => .host 0x1500000004#37 0x1F00000007#37
  | .nop => .ports (.bus 0b00#2)
  | .tick => .ports (.tick 0b01#2)
  | .btnFallUp => .ports (.btn .up 0b010#3)
  | .btnFallDn => .ports (.btn .dn 0b010#3)
  | .btnFallWv => .ports (.btn .wv 0b010#3)
  | .srdyEdge => .ports (.srdy 0b0001#4)
  | .pollTick => .ports (.poll 0b011#3)
  | .reset => .ports (.rst 0b1#1)

/-- The bits fit the row. -/
def Row.Fits : Row → OpWord → Prop
  | .host pat mask, w => ∃ v : HostWord, w = .host37 v ∧ v &&& mask = pat
  | .ports p, w => w = p

/-- What is stated of every operation: its encoding fits its row. -/
def Statement (i : Instr) : Prop := (row i).Fits (encode i)

/-- A write's word fits a row that looks at W and ADDR only. -/
theorem hostRow (we : Bool) (addr : RegAddr) (data : Word) :
    ∃ v : HostWord, OpWord.host37 (hostWord we addr data) = .host37 v ∧
      v &&& 0x1F00000000#37 = hostWord we addr 0 :=
  ⟨_, rfl, hostWord_and_select we addr data⟩

theorem rdCtrl : Statement .rdCtrl :=
  ⟨_, rfl, by decide⟩
theorem wrCtrl (data : Word) : Statement (.wrCtrl data) :=
  hostRow _ _ data
theorem rdNote : Statement .rdNote :=
  ⟨_, rfl, by decide⟩
theorem wrNote (data : Word) : Statement (.wrNote data) :=
  hostRow _ _ data
theorem rdOctave : Statement .rdOctave :=
  ⟨_, rfl, by decide⟩
theorem wrOctave (data : Word) : Statement (.wrOctave data) :=
  hostRow _ _ data
theorem rdWaveform : Statement .rdWaveform :=
  ⟨_, rfl, by decide⟩
theorem wrWaveform (data : Word) : Statement (.wrWaveform data) :=
  hostRow _ _ data
theorem rdVolume : Statement .rdVolume :=
  ⟨_, rfl, by decide⟩
theorem wrVolume (data : Word) : Statement (.wrVolume data) :=
  hostRow _ _ data
theorem rdCmd : Statement .rdCmd :=
  ⟨_, rfl, by decide⟩
theorem wrCmd (data : Word) : Statement (.wrCmd data) :=
  hostRow _ _ data
theorem rdFlags : Statement .rdFlags :=
  ⟨_, rfl, by decide⟩
theorem wrFlags (data : Word) : Statement (.wrFlags data) :=
  hostRow _ _ data
theorem rdFlagsSet : Statement .rdFlagsSet :=
  ⟨_, rfl, by decide⟩
theorem wrFlagsSet (data : Word) : Statement (.wrFlagsSet data) :=
  hostRow _ _ data
theorem rdPhase : Statement .rdPhase :=
  ⟨_, rfl, by decide⟩
theorem wrPhase (data : Word) : Statement (.wrPhase data) :=
  hostRow _ _ data
theorem rdOutCode : Statement .rdOutCode :=
  ⟨_, rfl, by decide⟩
theorem wrOutCode (data : Word) : Statement (.wrOutCode data) :=
  hostRow _ _ data
theorem rdStatus : Statement .rdStatus :=
  ⟨_, rfl, by decide⟩
theorem wrStatus (data : Word) : Statement (.wrStatus data) :=
  hostRow _ _ data
theorem rdRsvd11 : Statement .rdRsvd11 :=
  ⟨_, rfl, by decide⟩
theorem wrRsvd11 : Statement .wrRsvd11 :=
  ⟨_, rfl, by decide⟩
theorem rdRsvd12 : Statement .rdRsvd12 :=
  ⟨_, rfl, by decide⟩
theorem wrRsvd12 : Statement .wrRsvd12 :=
  ⟨_, rfl, by decide⟩
theorem rdRsvd13 : Statement .rdRsvd13 :=
  ⟨_, rfl, by decide⟩
theorem wrRsvd13 : Statement .wrRsvd13 :=
  ⟨_, rfl, by decide⟩
theorem rdRsvd14 : Statement .rdRsvd14 :=
  ⟨_, rfl, by decide⟩
theorem wrRsvd14 : Statement .wrRsvd14 :=
  ⟨_, rfl, by decide⟩
theorem rdRsvd15 : Statement .rdRsvd15 :=
  ⟨_, rfl, by decide⟩
theorem wrRsvd15 : Statement .wrRsvd15 :=
  ⟨_, rfl, by decide⟩
theorem wrCmdOctUp : Statement .wrCmdOctUp :=
  ⟨_, rfl, by decide⟩
theorem wrCmdOctDown : Statement .wrCmdOctDown :=
  ⟨_, rfl, by decide⟩
theorem wrCmdWaveNext : Statement .wrCmdWaveNext :=
  ⟨_, rfl, by decide⟩
theorem nop : Statement .nop := rfl
theorem tick : Statement .tick := rfl
theorem btnFallUp : Statement .btnFallUp := rfl
theorem btnFallDn : Statement .btnFallDn := rfl
theorem btnFallWv : Statement .btnFallWv := rfl
theorem srdyEdge : Statement .srdyEdge := rfl
theorem pollTick : Statement .pollTick := rfl
theorem reset : Statement .reset := rfl

end Sys2Proof.Laws.MatchesRow
end

