-- ==== Sys2Proof/Laws/Step.lean ====
section
/-! SUPPORT. What one step is: in a reset cycle RESET alone, in any other the host's operation and then the effects of
the engine, the sensor unit and the three buttons; and the bits of the masks those effects make. -/

namespace Sys2Proof.Machine

open Sys2Proof Sys2Proof.Config

/-! ## Operations always complete -/

/-- Every operation answers a next state (60_exceptions.md R200). -/
theorem exec_total (i : Instr) (s : State) : ∃ t, exec i s = .next t := by
  cases i <;> exact ⟨_, rfl⟩

theorem runOp_total (c : CycleOp) (s : State) : ∃ t, runOp c s = .next t := by
  cases c with
  | op i => exact exec_total i s
  | quiet u => exact ⟨_, rfl⟩

theorem runOps_total (l : List CycleOp) (s : State) : ∃ t, runOps l s = .next t := by
  induction l generalizing s with
  | nil => exact ⟨s, rfl⟩
  | cons c l ih =>
    obtain ⟨t, ht⟩ := runOp_total c s
    rw [runOps_cons_next ht]
    exact ih t

theorem runOps_append {l : List CycleOp} (m : List CycleOp) {s t : State} (h : runOps l s = .next t) :
    runOps (l ++ m) s = runOps m t := by
  induction l generalizing s with
  | nil =>
    rw [runOps_nil] at h
    cases h
    rfl
  | cons c l ih =>
    obtain ⟨u, hu⟩ := runOp_total c s
    rw [runOps_cons_next hu] at h
    rw [List.cons_append, runOps_cons_next hu]
    exact ih h

/-! ## The effects of a cycle -/

/-- The operation of the host in a cycle with the ports `p` (30_encoding.md R80). -/
abbrev hostInstr (p : Ports) : Instr := if p.busValid then decodeHost p.transaction else .nop

/-- What the units other than the host do to `t`, in a cycle with the ports and S of `c`. -/
def unitEffects (c t : State) : State :=
  buttonEffect .wv (c.start.btn .wv).fall (buttonEffect .dn (c.start.btn .dn).fall
    (buttonEffect .up (c.start.btn .up).fall (sensorEffect c (ddsEffect c.ports.tick t))))

/-- A step that is no reset cycle: the host's operation, then the effects of the other units (10_state.md R50). -/
theorem step_cycle {s t : State} (h : s.nextPorts.rst = false)
    (ht : exec (hostInstr s.nextPorts) (beginCycle s) = .next t) :
    step s = .next (endCycle (unitEffects (beginCycle s) t)) := by
  apply step_of_runOps
  rw [operations_cycle _ h, runOps_cons_next ((runOp_host _ _ h).trans ht), runOps_cons_next (runOp_dds _ _ h),
    runOps_cons_next (runOp_sensor _ _ h), runOps_cons_next (runOp_button _ _ _ h),
    runOps_cons_next (runOp_button _ _ _ h), runOps_cons_next (runOp_button _ _ _ h)]
  rfl

/-- A reset cycle (70_reset_and_hazards.md R220). -/
theorem step_resetCycle {s : State} (h : s.nextPorts.rst = true) :
    step s = .next (endCycle (beginCycle s).enterReset) := by
  apply step_of_runOps
  rw [operations_reset _ h]
  rfl

/-- The sensor unit as one record, where the flags are the merge of the masks made so far and it has made none yet. -/
theorem sensorEffect_spec {c s : State} (hs : c.start = s.start) (hp : c.ports = s.ports) (hc : c.cfg = s.cfg)
    (hn : s.regs.pollCnt = s.start.pollCnt) (hf : s.regs.flags = mergeFlags s.start.flags s.masks)
    (hm : s.masks.sset = 0) :
    sensorEffect c s =
      { s with
        regs := { s.regs with
          rs1 := s.ports.srdy, rs2 := s.start.rs1, rs3 := s.start.rs2
          pollCnt := Rule50.pollCnt s.cfg s.start s.ports
          flags := mergeFlags s.start.flags { s.masks with sset := Rule50.sset s.cfg s.start s.ports } }
        masks := { s.masks with sset := Rule50.sset s.cfg s.start s.ports } } := by
  obtain ⟨cfg, regs, start, ⟨clr, hset, sset, up, dn, wv⟩, ports, outs, inputs⟩ := s
  simp only at hs hp hc hn hf hm
  subst hm
  have hf' : regs.flags = mergeFlags start.flags ⟨clr, hset, 0#5, up, dn, wv⟩ := hf
  unfold sensorEffect
  rw [hs, hp, hc]
  cases hsrc : start.srdySrc <;> cases htick : ports.tick <;>
    simp only [if_true, Bool.false_eq_true, if_false, quietSensor_spec, Rule50.pollCnt, Rule50.sset, hsrc, htick]
  · cases hr : readyEdge cfg start <;> simp [hf']
    rfl
  · cases hr : readyEdge cfg start <;> simp [hf']
    rfl
  · simp [hf', hn]
  · rw [pollStep_spec]
    by_cases hr : start.pollCnt + 1#8 = cfg.pollPeriod <;>
      simp [hr, State.shiftSensor, State.writeRs, State.updRegs, hf']

/-! ## Buttons -/

/-- The synchronized falling edge (41_input_bridge.md R132). -/
theorem fall_iff (b : ButtonRegs) : b.fall = true ↔ b.bs3 = true ∧ b.bs2 = false := by
  unfold ButtonRegs.fall
  cases b.bs3 <;> cases b.bs2 <;> decide

/-- The edge latch after a cycle (41_input_bridge.md R133). -/
theorem nextButton_edgeLatch (d : BitVec 16) (fall raw : Bool) (b : ButtonRegs) :
    (nextButton d fall raw b).edgeLatch = true ↔
      fall = true ∨ (b.edgeLatch = true ∧ b.dbState ≠ .idle ∧
        ¬ (b.dbState = .check2 ∧ b.dbCnt = 0 ∧ b.bs2 = false)) := by
  obtain ⟨bs1, bs2, bs3, latch, state, cnt⟩ := b
  unfold nextButton debounce
  cases fall <;> cases state <;> cases bs2 <;> cases latch <;> by_cases h : cnt = 0#16 <;> simp [h]

/-! ## The bits of the masks -/

theorem buttonFlags_getLsbD (b : Button) (i : Fin 5) :
    (buttonFlags b).getLsbD i = true ↔ i.val = b.index ∨ i.val = 4 := by
  cases b <;> revert i <;> decide

theorem sensorFlags_getLsbD (i : Fin 5) : sensorFlags.getLsbD i = true ↔ i.val = 3 ∨ i.val = 4 := by
  revert i
  decide

theorem clearMaskOfData_getLsbD (data : Word) (i : Fin 5) : (clearMaskOfData data).getLsbD i = data.getLsbD i := by
  have := i.isLt
  simp [clearMaskOfData]

theorem setMaskOfData_getLsbD (data : Word) (i : Fin 5) :
    (setMaskOfData data).getLsbD i = true ↔ i.val = 4 ∧ data.getLsbD 4 = true := by
  unfold setMaskOfData
  cases data.getLsbD 4
  · simp
  · revert i
    decide

end Sys2Proof.Machine
end

