-- ==== Sys2Proof/Tests/Slice0.lean ====
section
/-! SUPPORT. Small tests. Words, states and results are those of spec/95_test_vectors.md (L1, L2 and the programs P1 to
P7, named at each test), in its test configuration TC1 to TC3. Then, for every obligation with hypotheses, a theorem
that shows a state and operands meeting all of them. -/

namespace Sys2Proof.Tests

open Sys2Proof Sys2Proof.Config Sys2Proof.Machine Sys2Proof.Safety

/-! ## The test configuration -/

/-- TC1 to TC3 of 95_test_vectors.md, with a poll period of 4 as in program P3. -/
def tc (cadence : Cadence) : Params where
  cadence := cadence
  srdyActiveHigh := true
  pollPeriod := 4
  debounceCycles := 2
  inc3 := #v[0x01000000, 0x02000000, 0x03000000, 0x04000000, 0x05000000, 0x06000000, 0x07000000, 0x08000000,
    0x09000000, 0x0A000000, 0x0B000000, 0x0C000000, 0x0D000000]
  wave := #v[
    #v[0, 633, 1203, 1656, 1947, 2047, 1947, 1656, 1203, 633, 0, -633, -1203, -1656, -1947, -2047, -1947, -1656,
      -1203, -633],
    #v[0, 409, 819, 1228, 1638, 2047, 1638, 1228, 819, 409, 0, -409, -819, -1228, -1638, -2047, -1638, -1228, -819,
      -409],
    #v[-2048, -1832, -1617, -1401, -1186, -970, -755, -539, -324, -108, 107, 323, 538, 754, 969, 1185, 1400, 1616,
      1831, 2047]]

/-- The machine of the test configuration after reset, its elements changed by `f`. -/
def machine (f : Regs → Regs) (cadence : Cadence := .one) : State := (State.resetOf (tc cadence)).updRegs f

/-- The machine after reset. -/
def fresh : State := State.resetOf (tc .one)

/-- The state after one step. -/
def next (s : State) : State :=
  match step s with
  | .next t => t
  | _ => s

/-- The state after the cycle of a transaction word. -/
def tx (s : State) (w : Nat) : State := next (s.withFetchWord 37 w)

/-- Ports on which nothing happens. -/
def idle : Ports := Ports.idle (tc .one)

/-- The ports of a write. -/
def wr (a : RegAddr) (d : Word) : Ports := { idle with busValid := true, busWe := true, busAddr := a, busWdata := d }

/-- The ports of a read. -/
def rd (a : RegAddr) : Ports := { idle with busValid := true, busAddr := a }

/-! ## Well-formedness: the only ill-formed terms are a general command with a single-bit form's data -/

theorem test_wf_refuses_octUp : wellFormed (.wrCmd 0x00000001#32) = false := by decide
theorem test_wf_refuses_octDown : wellFormed (.wrCmd 0xFFFFFFFA#32) = false := by decide
theorem test_wf_refuses_waveNext : wellFormed (.wrCmd 0x00000004#32) = false := by decide
theorem test_wf_accepts_other_commands :
    wellFormed (.wrCmd 0#32) = true ∧ wellFormed (.wrCmd 3#32) = true ∧ wellFormed (.wrCmd 7#32) = true := by decide

/-! ## Decoding: every row, its word written out from the spec's encoding (30_encoding.md R84, R97) -/

theorem test_decode_reads_low :
    decode (.host37 0b0_0000_00000000000000000000000000000000#37) = .ok .rdCtrl ∧
    decode (.host37 0b0_0001_00000000000000000000000000000000#37) = .ok .rdNote ∧
    decode (.host37 0b0_0010_11111111111111111111111111111111#37) = .ok .rdOctave ∧
    decode (.host37 0b0_0011_00000000000000000000000000000001#37) = .ok .rdWaveform ∧
    decode (.host37 0b0_0100_00000000000000000000000000000000#37) = .ok .rdVolume ∧
    decode (.host37 0b0_0101_00000000000000000000000000000001#37) = .ok .rdCmd ∧
    decode (.host37 0b0_0110_00000000000000000000000000000000#37) = .ok .rdFlags ∧
    decode (.host37 0b0_0111_00000000000000000000000000000000#37) = .ok .rdFlagsSet := by decide

theorem test_decode_reads_high :
    decode (.host37 0b0_1000_00000000000000000000000000000000#37) = .ok .rdPhase ∧
    decode (.host37 0b0_1001_00000000000000000000000000000000#37) = .ok .rdOutCode ∧
    decode (.host37 0b0_1010_10000000000000000000000000000000#37) = .ok .rdStatus ∧
    decode (.host37 0b0_1011_00000000000000000000000000000000#37) = .ok .rdRsvd11 ∧
    decode (.host37 0b0_1100_00000000000000000000000000000000#37) = .ok .rdRsvd12 ∧
    decode (.host37 0b0_1101_00000000000000000000000000000000#37) = .ok .rdRsvd13 ∧
    decode (.host37 0b0_1110_00000000000000000000000000000000#37) = .ok .rdRsvd14 ∧
    decode (.host37 0b0_1111_00000000000000000000000000000000#37) = .ok .rdRsvd15 := by decide

theorem test_decode_writes_low :
    decode (.host37 0b1_0000_11111111111111111111111111111110#37) = .ok (.wrCtrl 0xFFFFFFFE#32) ∧
    decode (.host37 0b1_0001_00000000000000000000011010000000#37) = .ok (.wrNote 0x680#32) ∧
    decode (.host37 0b1_0010_11111111111111111111111111111100#37) = .ok (.wrOctave 0xFFFFFFFC#32) ∧
    decode (.host37 0b1_0011_00000000000000000000000000000011#37) = .ok (.wrWaveform 3#32) ∧
    decode (.host37 0b1_0100_00000000000000000000000001100101#37) = .ok (.wrVolume 101#32) ∧
    decode (.host37 0b1_0101_00000000000000000000000000000111#37) = .ok (.wrCmd 7#32) ∧
    decode (.host37 0b1_0110_00000000000000000000000000010001#37) = .ok (.wrFlags 0x11#32) ∧
    decode (.host37 0b1_0111_00000000000000000000000000010000#37) = .ok (.wrFlagsSet 0x10#32) := by decide

theorem test_decode_writes_high :
    decode (.host37 0b1_1000_00000000000000000000000000000000#37) = .ok (.wrPhase 0#32) ∧
    decode (.host37 0b1_1001_00000000000000000000000000000000#37) = .ok (.wrOutCode 0#32) ∧
    decode (.host37 0b1_1010_11111111111111111111111111111111#37) = .ok (.wrStatus 0xFFFFFFFF#32) ∧
    decode (.host37 0b1_1011_00000000000000000000000000000001#37) = .ok .wrRsvd11 ∧
    decode (.host37 0b1_1100_00000000000000000000000000000000#37) = .ok .wrRsvd12 ∧
    decode (.host37 0b1_1101_00000000000000000000000000000000#37) = .ok .wrRsvd13 ∧
    decode (.host37 0b1_1110_00000000000000000000000000000000#37) = .ok .wrRsvd14 ∧
    decode (.host37 0b1_1111_00000000000000000000000000000001#37) = .ok .wrRsvd15 := by decide

theorem test_decode_commands :
    decode (.host37 0b1_0101_00000000000000000000000000000001#37) = .ok .wrCmdOctUp ∧
    decode (.host37 0b1_0101_11111111111111111111111111111010#37) = .ok .wrCmdOctDown ∧
    decode (.host37 0b1_0101_00000000000000000000000000000100#37) = .ok .wrCmdWaveNext ∧
    decode (.host37 0b1_0101_11111111111111111111111111111000#37) = .ok (.wrCmd 0xFFFFFFF8#32) := by decide

theorem test_decode_events :
    decode (.bus 0b00#2) = .ok .nop ∧ decode (.tick 0b01#2) = .ok .tick ∧
    decode (.btn .up 0b010#3) = .ok .btnFallUp ∧ decode (.btn .dn 0b010#3) = .ok .btnFallDn ∧
    decode (.btn .wv 0b010#3) = .ok .btnFallWv ∧ decode (.srdy 0b0001#4) = .ok .srdyEdge ∧
    decode (.poll 0b011#3) = .ok .pollTick ∧ decode (.rst 0b1#1) = .ok .reset := by decide

theorem test_decode_rejects_by_name :
    decode (.bus 0b01#2) = .error .transactionPresent ∧ decode (.bus 0b10#2) = .error .resetCycle ∧
    decode (.tick 0b00#2) = .error .noTick ∧ decode (.tick 0b11#2) = .error .resetCycle ∧
    decode (.btn .up 0b011#3) = .error .noFall ∧ decode (.btn .up 0b000#3) = .error .noFall ∧
    decode (.srdy 0b0101#4) = .error .edgeNotSelected ∧ decode (.srdy 0b0011#4) = .error .noReadyEdge ∧
    decode (.poll 0b001#3) = .error .pollNotSelected ∧ decode (.poll 0b010#3) = .error .noTick ∧
    decode (.rst 0b0#1) = .error .notReset := by decide

theorem test_table_words :
    decodeTableWord 37 0x1500000001 = some .wrCmdOctUp ∧ decodeTableWord 40 0x1100000680 = some (.wrNote 0x680#32) ∧
    decodeTableWord 8 0 = some .nop ∧ decodeTableWord 8 1 = some .tick ∧
    decodeTableWord 40 0x2000000000 = none := by decide

/-! ## Host transactions (L2.6), each as the first step after reset unless the vector gives a start -/

theorem test_rdCtrl : (tx fresh 0x0000000000).outs.rdata = 1 := by decide
theorem test_wrCtrl : (tx fresh 0x10FFFFFFFE).regs.srdySrc = false := by decide
theorem test_wrCtrl_set : (tx (machine fun r => { r with srdySrc := false }) 0x1000000003).regs.srdySrc = true := by
  decide
theorem test_rdNote : (tx (tx fresh 0x1100000D00) 0x0100000000).outs.rdata = 0xC00 := by decide
theorem test_wrNote : (tx fresh 0x1100000680).regs.note = 0x680 := by decide
theorem test_wrNote_negative : (tx (machine fun r => { r with note := 5 }) 0x1180000000).regs.note = 0 := by decide
theorem test_rdOctave : (tx (machine fun r => { r with octave := -3 }) 0x0200000000).outs.rdata = 0xFFFFFFFD := by decide
theorem test_wrOctave_saturates : (tx fresh 0x1200000007).regs.octave = 3 := by decide
theorem test_wrOctave_negative : (tx fresh 0x12FFFFFFFC).regs.octave = 0b101 := by decide
theorem test_rdWaveform : (tx (machine fun r => { r with waveform := 2 }) 0x0300000000).outs.rdata = 2 := by decide
theorem test_wrWaveform : (tx fresh 0x1300000003).regs.waveform = 2 := by decide
theorem test_wrWaveform_negative :
    (tx (machine fun r => { r with waveform := 2 }) 0x13FFFFFFFF).regs.waveform = 0 := by decide
theorem test_rdVolume : (tx fresh 0x0400000000).outs.rdata = 0x14 := by decide
theorem test_wrVolume : (tx fresh 0x1400000065).regs.volume = 100 := by decide
theorem test_wrVolume_negative : (tx fresh 0x14FFFFFFFB).regs.volume = 0 := by decide
theorem test_rdCmd : (tx (tx fresh 0x1500000007) 0x0500000000).outs.rdata = 0 := by decide
theorem test_octUp : (tx (machine fun r => { r with octave := 2 }) 0x1500000001).regs.octave = 3 := by decide
theorem test_octUp_saturates : (tx (machine fun r => { r with octave := 3 }) 0x1500000001).regs.octave = 3 := by decide
theorem test_octDown : (tx fresh 0x1500000002).regs.octave = -1 := by decide
theorem test_octDown_saturates :
    (tx (machine fun r => { r with octave := -3 }) 0x1500000002).regs.octave = -3 := by decide
theorem test_waveNext_wraps :
    (tx (machine fun r => { r with waveform := 2 }) 0x1500000004).regs.waveform = 0 := by decide
theorem test_wrCmd_all_bits :
    (tx (machine fun r => { r with waveform := 1 }) 0x1500000007).regs.waveform = 2 ∧
    (tx (machine fun r => { r with waveform := 1 }) 0x1500000007).regs.octave = 0 := by decide
theorem test_wrCmd_saturates_once :
    (tx (machine fun r => { r with octave := 3 }) 0x1500000003).regs.octave = 3 := by decide
theorem test_rdFlags : (tx (machine fun r => { r with flags := 0x11 }) 0x0600000000).outs.rdata = 0x11 := by decide
theorem test_wrFlags : (tx (machine fun r => { r with flags := 0x1F }) 0x1600000001).regs.flags = 0x1E := by decide
theorem test_wrFlags_ignores_high_bits :
    (tx (machine fun r => { r with flags := 0x1F }) 0x16FFFFFFE0).regs.flags = 0x1F := by decide
theorem test_rdFlagsSet : (tx (machine fun r => { r with flags := 0x10 }) 0x0700000000).outs.rdata = 0 := by decide
theorem test_wrFlagsSet : (tx fresh 0x1700000010).regs.flags = 0x10 := by decide
theorem test_wrFlagsSet_only_bit_four : (tx fresh 0x170000000F).regs.flags = 0 := by decide
theorem test_rdPhase : (tx (machine fun r => { r with phase := 0x08000000 }) 0x0800000000).outs.rdata = 0x08000000 := by
  decide
theorem test_wrPhase : (tx (machine fun r => { r with phase := 0x08000000 }) 0x1800000000).regs.phase = 0x08000000 := by
  decide
theorem test_rdOutCode : (tx fresh 0x0900000000).outs.rdata = 0x800 := by decide
theorem test_wrOutCode : (tx fresh 0x1900000000).regs.outCode = 2048 := by decide
theorem test_rdStatus : (tx fresh 0x0A00000000).outs.rdata = 0x00070000 := by decide
/-- P6, cycle 7. -/
theorem test_rdStatus_fields :
    (tx (machine fun r => { r with tdiv := true, pollCnt := 5 }) 0x0A00000000).outs.rdata = 0x00070540 := by decide
/-- P7, cycle 5: a machine in CHECK1. -/
theorem test_rdStatus_check1 :
    (tx (machine fun r =>
      { r with wv := { bs1 := false, bs2 := false, bs3 := false, edgeLatch := false, dbState := .check1, dbCnt := 1 } })
      0x0A00000000).outs.rdata = 0x00030010 := by decide
theorem test_wrStatus : (tx fresh 0x1AFFFFFFFF).regs = (tx fresh 0x0000000000).regs := by decide
theorem test_reserved_reads :
    ([0x0B00000000, 0x0C00000000, 0x0D00000000, 0x0E00000000, 0x0F00000000].map fun w => (tx fresh w).outs.rdata) =
      [0, 0, 0, 0, 0] := by decide
theorem test_reserved_writes :
    ([0x1B00000001, 0x1C00000001, 0x1D00000001, 0x1E00000001, 0x1F00000001].map fun w => (tx fresh w).regs) =
      List.replicate 5 (tx fresh 0x0000000000).regs := by decide
theorem test_nop : (next fresh).outs.rdata = 0 ∧ (next fresh).regs = fresh.regs := by decide

/-- R99: SETNOTE 6.5 writes 0x680 (30_encoding.md R86). -/
theorem test_setNote :
    ((assemble idle (Pseudo.setNote (13 / 2 : ℚ)).expand).map fun p => (p.busValid, p.transaction)) =
      [(true, 0x11_0000_0680#37)] := by
  have h : roundHalfUp (13 / 2 * 256 : ℚ) = 0x680 := by rw [roundHalfUp_eq_iff]; norm_num
  simp only [Pseudo.expand, h]
  decide

/-! ## The DDS engine -/

/-- L2.1 row 2: code 2174, PHASE 0x10000000. -/
theorem test_tick :
    let t := next ((machine fun r => { r with phase := 0x08000000 }).withFetchWord 2 1)
    t.regs.outCode = 2174 ∧ t.regs.phase = 0x10000000 ∧ t.regs.load = true := by decide

/-- L2.1 row 6: the largest note at octave 3, the wrap keeping the fraction. -/
theorem test_tick_wraps :
    let t := next ((machine fun r =>
      { r with note := 0xB80, octave := 3, waveform := 1, volume := 100, phase := 0x9FFFFFFF }).withFetchWord 2 1)
    t.regs.outCode = 1639 ∧ t.regs.phase = 0x1FFFFFFF := by decide

/-- L2.1 row 10: the scaling rounds toward zero. -/
theorem test_scale_toward_zero : scale (-2047) 73 = -1494 ∧ scale (-99) 1 = 0 := by decide

/-- L2.2. -/
theorem test_note_rounding :
    ([0x000, 0x07F, 0x080, 0x17F, 0x180, 0x67F, 0x680, 0x97F, 0x980, 0xB7F, 0xB80, 0xBFF, 0xC00].map fun n =>
      noteIndexNat n) = [0, 0, 1, 1, 2, 6, 7, 9, 10, 11, 12, 12, 12] := by decide

/-- P6, cycle 2: with CADENCE = 2 the second tick does not sample. -/
theorem test_tick_cadence_two :
    let t := next ((machine (fun r => { r with tdiv := true, phase := 0x08000000, load := true }) .two).withFetchWord 2 1)
    t.regs.tdiv = false ∧ t.regs.load = false ∧ t.regs.phase = 0x08000000 := by decide

/-! ## The input units -/

/-- A button as at the start of cycle `t + 2` of L2.8: its falling edge is seen. -/
def falling : ButtonRegs := { ButtonRegs.reset with bs1 := false, bs2 := false }

/-- A button in cycle `t + 7` of L2.8: the second re-check. -/
def confirming : ButtonRegs :=
  { bs1 := false, bs2 := false, bs3 := false, edgeLatch := false, dbState := .check2, dbCnt := 0 }

/-- L2.8, cycle `t + 2`: the edge is latched. -/
theorem test_btnFall :
    (next (fresh.withFetchWord 3 2)).regs.up.edgeLatch = true ∧
    (next ((machine fun r => { r with dn := falling }).pushPorts idle)).regs.dn.edgeLatch = true ∧
    (next ((machine fun r => { r with wv := falling }).pushPorts idle)).regs.wv.edgeLatch = true := by decide

/-- L2.8, cycle `t + 3`: the machine takes the edge. -/
theorem test_btn_take :
    let t := next (machine fun r => { r with dn := { confirming with edgeLatch := true, dbState := .idle } })
    t.regs.dn.dbState = .check1 ∧ t.regs.dn.dbCnt = 1 ∧ t.regs.dn.edgeLatch = false := by decide

/-- P5, cycle 24, and L2.7: FLAGS = 0x12 from one button, 0x13 from two at once. -/
theorem test_confirmation :
    (next (machine fun r => { r with dn := confirming })).regs.flags = 0x12 ∧
    (next (machine fun r => { r with up := confirming, dn := confirming })).regs.flags = 0x13 ∧
    (next (machine fun r => { r with wv := confirming })).regs.flags = 0x14 := by decide

/-- P5, cycle 8: released at the second re-check. -/
theorem test_rejection :
    let t := next (machine fun r => { r with dn := { confirming with bs2 := true } })
    t.regs.flags = 0 ∧ t.regs.dn.dbState = .idle := by decide

/-- P3, cycle 16: the edge source sets FLAGS = 0x18. -/
theorem test_srdyEdge : (next (fresh.withFetchWord 4 1)).regs.flags = 0x18 := by decide

/-- P3, cycle 4: the fourth tick sets the flags and starts the count again. -/
theorem test_pollTick :
    let t := next ((machine fun r => { r with pollCnt := 3 }).withFetchWord 3 3)
    t.regs.flags = 0x18 ∧ t.regs.pollCnt = 0 := by decide

/-- P3, cycle 10: a set wins over the host's clear in the same cycle. -/
theorem test_set_wins :
    (next ((machine fun r => { r with pollCnt := 3, flags := 0x18 }).pushPorts
      { wr 0x6 0x18 with tick := true })).regs.flags = 0x18 := by decide

/-- L2.6, the row of R220: in a reset cycle a read is not performed. -/
theorem test_reset :
    let t := next ((machine fun r => { r with note := 5, flags := 3 }).pushPorts { rd 0x0 with rst := true })
    t.outs.rdata = 0 ∧ t.regs = Regs.reset (tc .one) := by decide

/-! ## Witnesses: for each obligation with hypotheses, a state and operands that meet them together -/

/-- EncodedOperationsDecodeBack, PlacedOperationIsPresented: well-formed operations of every family. -/
theorem witness_wellFormed :
    wellFormed (.wrCmd 0xFFFFFFFF#32) = true ∧ wellFormed (.wrNote 0x80000000#32) = true ∧
    wellFormed .rdStatus = true ∧ wellFormed .btnFallUp = true ∧ wellFormed .reset = true := by decide

/-- StepRunsThePresentedOperations, its three clauses: a reset cycle; a cycle with a transaction; an operation of another
unit. -/
theorem witness_presented :
    (fresh.pushPorts { idle with rst := true }).nextPorts.rst = true ∧
    ((fresh.pushPorts (wr 0x1 0x680)).nextPorts.rst = false ∧
      decode (hostBits (beginCycle (fresh.pushPorts (wr 0x1 0x680)))) = .ok (.wrNote 0x680#32)) ∧
    CycleOp.op .tick ∈ operations (beginCycle (fresh.pushPorts { idle with tick := true })) := by decide

/-- OutputsInAndAfterReset, FirstCycleAfterResetIsOrdinary: a reset cycle, then a tick with a write of VOLUME. -/
theorem witness_after_reset :
    let q := { wr 0x4 101 with tick := true }
    let s := { fresh with inputs := [{ idle with rst := true }, q] }
    s.inputs = { idle with rst := true } :: q :: [] ∧ q.rst = false ∧ q.tick = true ∧ q.busValid = true ∧
      q.busWe = true ∧ q.busAddr = 0x4 := by decide

/-- StepComputesTheCycleFunction, IncrementDoublesWithTheOctave and the statements about a legal configuration: the
machine after reset, and one at the ends of the legal ranges. -/
theorem witness_legal :
    LegalState fresh ∧
    LegalState (machine fun r =>
      { r with note := 0xC00, octave := -3, waveform := 2, volume := 100, phase := 0x9FFFFFFF, pollCnt := 3
               up := { confirming with dbCnt := 1 } }) := by decide

/-- ResetStateIsLegal. -/
theorem witness_legal_parameters : (tc .one).Legal ∧ (tc .two).Legal := by decide

/-- IncrementDoublesWithTheOctave: one octave more, at both ends. -/
theorem witness_octave_more :
    (-2 : BitVec 3).toInt = (-3 : BitVec 3).toInt + 1 ∧ (3 : BitVec 3).toInt = (2 : BitVec 3).toInt + 1 := by decide

/-- StepKeepsLegalStates, ConfigurationNeverChanges: a legal state and its next state. -/
theorem witness_step : ∃ t, LegalState fresh ∧ step fresh = .next t := ⟨_, by decide, rfl⟩

/-- OrderWithinACycleDoesNotMatter: the operations of a cycle in reverse. -/
theorem witness_order : (operations (beginCycle fresh)).reverse.Perm (operations (beginCycle fresh)) :=
  List.reverse_perm _

/-- HostIsNotSeenByItsOwnCycle: a cycle without a transaction, in which a flag is set. -/
theorem witness_quiet_cycle :
    let s := machine fun r => { r with dn := confirming }
    idle.rst = false ∧ idle.busValid = false ∧ (1 : Fin 5) ≠ 4 ∧
      (next ((s.updRegs fun r => { r with flags := 0 }).pushPorts idle)).regs.flags.getLsbD 1 = true ∧
      (next (s.pushPorts (wr 0x6 0x1F))).regs.flags.getLsbD 1 = true := by decide

/-- OnlyTheHostWritesParameters, ReadsIgnoreDataAndChangeNothing, FlagsChangeOnlyByTheirSources and the statements about
a cycle that is no reset cycle: a read. -/
theorem witness_read :
    (rd 0x6).rst = false ∧ (rd 0x6).busValid = true ∧ (rd 0x6).busWe = false ∧
      ((rd 0x6).busValid && (rd 0x6).busWe) = false := by decide

/-- WrittenParametersReadBackClamped: a write and a read of one address, for each of its five clauses. -/
theorem witness_write_read :
    ∀ a ∈ [(0x0 : RegAddr), 0x1, 0x2, 0x3, 0x4],
      let s := { fresh with inputs := [wr a 0x80000000, rd a] }
      s.inputs = wr a 0x80000000 :: rd a :: [] ∧ (wr a 0x80000000).rst = false ∧
      (wr a 0x80000000).busValid = true ∧ (wr a 0x80000000).busWe = true ∧ (rd a).rst = false ∧
      (rd a).busValid = true ∧ (rd a).busWe = false ∧ (rd a).busAddr = (wr a 0x80000000).busAddr ∧
      (wr a 0x80000000).busAddr = a := by decide

/-- ReservedTransactionsDoNothing: the first and the last reserved address. -/
theorem witness_reserved : 0xB ≤ (0xB : RegAddr).toNat ∧ 0xB ≤ (0xF : RegAddr).toNat := by decide

/-- CommandMovesOctaveAndWaveform: data that is no single-bit form, with no bit and with all three. -/
theorem witness_general_command : singleCommand 0#32 = false ∧ singleCommand 7#32 = false := by decide

/-- NopDoesNothing. -/
theorem witness_boundary : AtBoundary fresh ∧ AtBoundary (beginCycle fresh) := by decide

/-- TickProducesASample: with either cadence. -/
theorem witness_sample :
    (LegalRegs fresh.cfg fresh.start ∧ fresh.cfg.cadence = .one) ∧
    (LegalRegs (tc .two) (State.resetOf (tc .two)).start ∧ (State.resetOf (tc .two)).start.tdiv = false) := by decide

/-- A machine with CADENCE = 2 between its first and its second tick. -/
def betweenTicks : State := next ((State.resetOf (tc .two)).pushPorts { idle with tick := true })

/-- TickWithoutASample, NoSampleLeavesPhaseAndCode: both ways not to sample. -/
theorem witness_no_sample :
    betweenTicks.cfg.cadence = .two ∧ betweenTicks.start.tdiv = true ∧ betweenTicks.regs.tdiv = true ∧
    idle.rst = false ∧ idle.tick = false := by decide

/-- VolumeZeroGivesMidScale. -/
theorem witness_volume_zero :
    let s := machine fun r => { r with volume := 0 }
    let p := { idle with tick := true }
    p.rst = false ∧ p.tick = true ∧ s.cfg.cadence = .one ∧ s.regs.volume = 0 := by decide

/-- Three ticks, with a cycle without a tick after the first. -/
def sparseTicks : List Ports := [{ idle with tick := true }, idle, { idle with tick := true }, { idle with tick := true }]

/-- EveryOtherTickSamples: after the third tick, which samples, and after the cycle without one. -/
theorem witness_ticks :
    let s := { State.resetOf (tc .two) with inputs := sparseTicks }
    ∃ t u, s.cfg.cadence = .two ∧ s.regs.tdiv = false ∧ 4 ≤ s.inputs.length ∧
      (∀ p ∈ s.inputs.take 4, p.rst = false) ∧ Runs 4 s t ∧ ticksIn 4 s % 2 = 1 ∧
      (s.inputs.take 4).getLast? = some { idle with tick := true } ∧
      Runs 2 s u ∧ ticksIn 2 s % 2 = 1 ∧ (s.inputs.take 2).getLast? = some idle :=
  ⟨_, _, by decide, by decide, by decide, by decide, rfl, by decide, by decide, rfl, by decide, by decide⟩

/-- NoteIndexRoundsHalfUp, ScalingRoundsTowardZero, OutputClampNeverActs, PhaseKeepsItsRemainder,
TuningWordIsNearest, LegalConfigurationsAreTheDerivedOnes: the ends of their ranges. -/
theorem witness_ranges :
    (0xC00 : BitVec 12).toNat ≤ 0xC00 ∧ (100 : BitVec 7).toNat ≤ 100 ∧ (0x9FFFFFFF : BitVec 32).toNat < phaseMod ∧
    (0 : ℝ) < 440 ∧ (0 : ℝ) < 40000 := by
  refine ⟨by decide, by decide, by decide, by norm_num, by norm_num⟩

/-- TuningWordIsNearest: legal parameters, those of the test configuration, with a tick rate at which a frequency is its
own exact increment. -/
theorem witness_built : ∃ q : BuildParams, q.toParams = tc .one ∧ q.Legal := by
  have positive : ∀ n : Fin 13, 0 < ((tc .one).inc3[n]).toNat := by decide
  refine ⟨{ tc .one with tickRate := 20 * 2 ^ 27 / 8, noteFreq := (tc .one).inc3.map fun w => (w.toNat : ℝ) }, rfl,
    { params := by decide, tickRate_pos := by norm_num
      noteFreq_pos := fun n => by simpa using positive n
      derived := fun n => ?_ }⟩
  have exact_increment (x : ℝ) : exactIncrement x (20 * 2 ^ 27 / 8) .one = x := by
    simp only [exactIncrement, Cadence.factor]
    norm_num; ring
  change _ = roundHalfUp (exactIncrement _ _ Cadence.one)
  rw [exact_increment]
  simp

/-- ObservationReads: a machine in each state that STATUS shows. -/
theorem witness_db_states :
    ∀ d ∈ [DbState.idle, .check1, .check2],
      (beginCycle (machine fun r => { r with wv := { confirming with dbState := d } })).start.wv.dbState = d := by decide

/-- DebounceTransition, in FallingEdgeOperations and ButtonLogicRunsEveryCycle: a state for each of its six clauses. -/
theorem witness_transitions :
    let edge : ButtonRegs := { ButtonRegs.reset with edgeLatch := true }
    (edge.dbState = .idle ∧ edge.edgeLatch = true) ∧
    (ButtonRegs.reset.dbState = .idle ∧ ButtonRegs.reset.edgeLatch = false) ∧
    (let b := { confirming with dbCnt := 1 }; b.dbState ≠ .idle ∧ b.dbCnt ≠ 0) ∧
    (let b := { confirming with dbState := .check1 }; b.dbState = .check1 ∧ b.dbCnt = 0 ∧ b.bs2 = false) ∧
    (confirming.dbState = .check2 ∧ confirming.dbCnt = 0 ∧ confirming.bs2 = false) ∧
    (let b := { confirming with bs2 := true }; b.dbState ≠ .idle ∧ b.dbCnt = 0 ∧ b.bs2 = true) := by decide

/-- ConfirmationSetsItsFlags, EdgeLatchRemembersUntilTaken: a confirmation, in a cycle with and without a write. -/
theorem witness_confirms :
    Confirms .up (machine fun r => { r with up := confirming }) ∧ (wr 0x6 0x11).rst = false ∧ idle.rst = false ∧
    (idle.busValid && idle.busWe) = false := by decide

/-- RejectionHasNoSideEffect: a release at the first and at the second re-check, and a released button beside it. -/
theorem witness_rejects :
    ∀ d ∈ [DbState.check1, .check2],
      let s := machine fun r => { r with wv := { confirming with bs2 := true, dbState := d } }
      idle.rst = false ∧ (s.regs.btn .wv).dbState ≠ .idle ∧ (s.regs.btn .wv).dbCnt = 0 ∧
        (s.regs.btn .wv).bs2 = true ∧
        ¬ Confirms .wv (s.updRegs fun r => r.setBtn .wv ButtonRegs.reset) := by decide

/-- ButtonsDoNotInteract: two machines that differ in another button, another line and a transaction. -/
theorem witness_two_machines :
    let s := machine fun r => { r with up := confirming }
    let u := machine fun r => { r with up := confirming, dn := falling }
    let q := { wr 0x0 0 with btnWv := false }
    idle.rst = false ∧ q.rst = false ∧ s.cfg.debounceCycles = u.cfg.debounceCycles ∧
      s.regs.btn .up = u.regs.btn .up ∧ idle.btn .up = q.btn .up := by decide

/-- The ports of a press of `k` cycles within `n` cycles. -/
def press (k n : Nat) : List Ports := (List.range n).map fun j => { idle with btnUp := decide (k ≤ j) }

/-- PressIsConfirmedOnceIfLongEnough, with D = 2: the shortest press that is confirmed, in its cycle 7 and in the cycle
before, and the longest that is not (program P5). -/
theorem witness_press :
    ∀ kn ∈ [(6, 7), (6, 6), (5, 7)],
      let s := { fresh with inputs := press kn.1 8 }
      s.cfg.Legal ∧ s.regs.btn .up = ButtonRegs.reset ∧ kn.2 ≤ s.inputs.length ∧
      (∀ (j : Nat) (h : j < s.inputs.length),
        (s.inputs[j]).rst = false ∧ ((s.inputs[j]).btn .up = false ↔ j < kn.1)) := by decide

theorem witness_press_runs : ∃ t, Runs 7 { fresh with inputs := press 6 8 } t ∧ Confirms .up t :=
  ⟨_, rfl, by decide⟩

/-- SensorUnitAfterACycle: a cycle in each mode, with and without a tick. -/
theorem witness_sensor_modes :
    (machine fun r => { r with srdySrc := false }).regs.srdySrc = false ∧ fresh.regs.srdySrc = true ∧
    idle.rst = false ∧ idle.tick = false ∧ { idle with tick := true }.tick = true := by decide

/-- EveryPeriodOfTicksSetsSensorReady: a period of four ticks with a cycle without one between them. -/
theorem witness_period :
    let s := { fresh with inputs := sparseTicks ++ [{ idle with tick := true }] }
    ∃ t, s.cfg.Legal ∧ s.regs.srdySrc = true ∧ s.regs.pollCnt = 0 ∧ 5 ≤ s.inputs.length ∧
      (∀ p ∈ s.inputs.take 5, p.rst = false ∧ ¬ WritesTo p 0x0) ∧ Runs 5 s t ∧
      (s.inputs.take 5).getLast? = some { idle with tick := true } ∧ ticksIn 5 s % s.cfg.pollPeriod.toNat = 0 :=
  ⟨_, by decide, by decide, by decide, by decide, by decide, rfl, by decide, by decide⟩

end Sys2Proof.Tests
end

section
/-! Rounding half up as a nearest integer, the exact increment with its inverse in the frequency, and the constraints
of R6 and R7 in the words of the model's own predicates. -/

namespace Sys2Proof.Config

section Rounding

variable {K : Type} [Field K] [LinearOrder K] [FloorRing K] [IsStrictOrderedRing K]

theorem abs_roundHalfUp_sub_le (x : K) : |(roundHalfUp x : K) - x| ≤ 1 / 2 := by
  obtain ⟨le_half_up, half_up_lt⟩ := (roundHalfUp_eq_iff x _).mp rfl
  rw [abs_le]
  constructor <;> linarith

/-- Each octave doubles the rounding error along with the increment (R117). -/
theorem abs_roundHalfUp_mul_two_pow_sub_le (x : K) (k : Nat) :
    |(roundHalfUp x : K) * 2 ^ k - x * 2 ^ k| ≤ 2 ^ k / 2 := by
  have scale_pos : (0 : K) < 2 ^ k := by positivity
  calc |(roundHalfUp x : K) * 2 ^ k - x * 2 ^ k|
      = |(roundHalfUp x : K) - x| * 2 ^ k := by rw [← sub_mul, abs_mul, abs_of_pos scale_pos]
    _ ≤ 1 / 2 * 2 ^ k := by gcongr; exact abs_roundHalfUp_sub_le x
    _ = 2 ^ k / 2 := by ring

theorem abs_tuningWord_mul_two_pow_sub_le (freq tickRate : K) (c : Cadence) (k : Nat) :
    |(tuningWord freq tickRate c : K) * 2 ^ k - exactIncrement freq tickRate c * 2 ^ k| ≤ 2 ^ k / 2 :=
  abs_roundHalfUp_mul_two_pow_sub_le _ k

end Rounding

theorem Cadence.factor_pos (c : Cadence) : 0 < c.factor := by cases c <;> decide

/-- The frequency whose exact increment at octave -3 is `x`: R7 solved for `NOTE_FREQ`. -/
noncomputable def freqOfIncrement (x tickRate : ℝ) (c : Cadence) : ℝ :=
  x * 8 * (tickRate / c.factor) / (20 * 2 ^ 27)

section PositiveRate

variable {tickRate : ℝ} (rate_pos : 0 < tickRate) (c : Cadence)
include rate_pos

theorem sampleRate_pos : 0 < tickRate / c.factor :=
  div_pos rate_pos (Nat.cast_pos.mpr c.factor_pos)

theorem exactIncrement_freqOfIncrement (x : ℝ) :
    exactIncrement (freqOfIncrement x tickRate c) tickRate c = x := by
  have rate_ne := (sampleRate_pos rate_pos c).ne'
  rw [exactIncrement, freqOfIncrement]
  generalize tickRate / c.factor = rate at rate_ne ⊢
  field_simp

theorem tuningWord_freqOfIncrement_natCast (w : Nat) :
    tuningWord (freqOfIncrement w tickRate c) tickRate c = w := by
  rw [tuningWord, exactIncrement_freqOfIncrement rate_pos, roundHalfUp_natCast]

theorem freqOfIncrement_pos {x : ℝ} (x_pos : 0 < x) : 0 < freqOfIncrement x tickRate c := by
  have := sampleRate_pos rate_pos c
  rw [freqOfIncrement]
  positivity

end PositiveRate

theorem ne_zero_iff_one_le_toNat {m : Nat} (v : BitVec m) : v ≠ 0 ↔ 1 ≤ v.toNat := by
  rw [Nat.one_le_iff_ne_zero, ne_eq, ← BitVec.toNat_inj]
  simp

/-- The upper bounds of R6 are the widths of the fields, so the written-out constraints say no more than
`Params.Legal` and the equation of R7. -/
theorem meetsR6AndR7_iff (c : Params) (tickRate : ℝ) (freq : Vector ℝ 13) :
    MeetsR6AndR7 c tickRate freq ↔
      c.Legal ∧ 0 < tickRate ∧
        ∀ n : Fin 13, 0 < freq[n] ∧ (c.inc3[n].toNat : Int) = tuningWord freq[n] tickRate c.cadence := by
  have exact_eq (x : ℝ) : ⌊x / 2 ^ 3 / (tickRate / c.cadence.factor) * 20 * 2 ^ 27 + 1 / 2⌋
      = tuningWord x tickRate c.cadence := by
    rw [tuningWord, roundHalfUp, exactIncrement]; norm_num
  simp only [MeetsR6AndR7, Params.Legal, ne_zero_iff_one_le_toNat, exact_eq]
  constructor
  · rintro ⟨rate_pos, ⟨debounce, -⟩, ⟨period, -⟩, notes⟩
    have entry (n : Fin 13) : 1 ≤ c.inc3[n].toNat ∧
        0 < freq[n] ∧ (c.inc3[n].toNat : Int) = tuningWord freq[n] tickRate c.cadence := by
      obtain ⟨freq_pos, w, derived, one_le, -, rfl⟩ := notes n
      exact ⟨one_le, freq_pos, derived⟩
    exact ⟨⟨period, debounce, fun n => (entry n).1⟩, rate_pos, fun n => (entry n).2⟩
  · rintro ⟨⟨period, debounce, words⟩, rate_pos, notes⟩
    refine ⟨rate_pos, ⟨debounce, by omega⟩, ⟨period, by omega⟩, fun n => ?_⟩
    obtain ⟨freq_pos, derived⟩ := notes n
    exact ⟨freq_pos, _, derived, words n, by omega, rfl⟩

theorem BuildParams.legal_iff_meetsR6AndR7 (q : BuildParams) :
    q.Legal ↔ MeetsR6AndR7 q.toParams q.tickRate q.noteFreq := by
  rw [meetsR6AndR7_iff]
  constructor
  · rintro ⟨params, rate_pos, freq_pos, derived⟩
    exact ⟨params, rate_pos, fun n => ⟨freq_pos n, derived n⟩⟩
  · rintro ⟨params, rate_pos, notes⟩
    exact ⟨params, rate_pos, fun n => (notes n).1, fun n => (notes n).2⟩

/-- At any tick rate the entries of a legal `INC3_ROM` are themselves exact increments of some frequencies. -/
theorem Params.Legal.exists_noteFreq {c : Params} (legal : c.Legal) {tickRate : ℝ} (rate_pos : 0 < tickRate) :
    ∃ freq : Vector ℝ 13, MeetsR6AndR7 c tickRate freq := by
  refine ⟨c.inc3.map fun w => freqOfIncrement w.toNat tickRate c.cadence,
    (meetsR6AndR7_iff ..).mpr ⟨legal, rate_pos, fun n => ?_⟩⟩
  obtain ⟨-, -, words⟩ := legal
  have word_pos : (0 : ℝ) < c.inc3[n].toNat := Nat.cast_pos.mpr ((ne_zero_iff_one_le_toNat _).mp (words n))
  simp only [Fin.getElem_fin, Vector.getElem_map]
  exact ⟨freqOfIncrement_pos rate_pos _ word_pos, (tuningWord_freqOfIncrement_natCast rate_pos _ _).symm⟩

/-- Settles O48: `roundHalfUp` errs by at most one half, and the octave scales the error. -/
theorem tuningWordIsNearest : Obligations.TuningWordIsNearest := by
  refine ⟨fun freq tickRate c k _ _ => abs_tuningWord_mul_two_pow_sub_le freq tickRate c k, fun q n legal => ?_⟩
  obtain ⟨-, -, -, notes⟩ := q.legal_iff_meetsR6AndR7.mp legal
  obtain ⟨-, w, formula, -, -, rfl⟩ := notes n
  refine ⟨formula, fun k => ?_⟩
  have near := abs_tuningWord_mul_two_pow_sub_le q.noteFreq[n] q.tickRate q.cadence k
  rwa [← legal.derived n, Int.cast_natCast] at near

/-- Settles O60: `MeetsR6AndR7` is the model's predicates written out, and R7 can be solved for the frequencies. -/
theorem legalConfigurationsAreTheDerivedOnes : Obligations.LegalConfigurationsAreTheDerivedOnes := by
  refine ⟨BuildParams.legal_iff_meetsR6AndR7, fun c tickRate rate_pos => ?_⟩
  constructor
  · intro legal
    exact legal.exists_noteFreq rate_pos
  · rintro ⟨freq, meets⟩
    exact ((meetsR6AndR7_iff ..).mp meets).1

end Sys2Proof.Config
end

section
/-! One cycle as one function of the configuration, the elements and the ports, for every state and not only the legal
ones: `step` is `afterCycle`. Its elements are `Rule50.stepRegs` of 10_state.md R50 but for the single-bit commands in
states against R43 (log 12), and the statements about a cycle are read off its fields. -/

namespace Sys2Proof.Machine

open Sys2Proof Sys2Proof.Config Sys2Proof.Safety

/-! ## The host's part of a cycle -/

/-- The command bits of a `WR CMD` (30_encoding.md R90). -/
abbrev commandBits (data : Word) : BitVec 3 := data.extractLsb' 0 3

/-- The octave after the host's transaction: WAVE_NEXT names no octave (42_host_interface.md R174; log 12). -/
def hostOctave (r : Regs) (p : Ports) : BitVec 3 :=
  if Rule50.writes p 0x5 ∧ commandBits p.busWdata = 0b100#3 then r.octave else Rule50.octave r p

/-- The waveform after the host's transaction: OCT_UP and OCT_DOWN name no waveform (42_host_interface.md R172, R173;
log 12). -/
def hostWaveform (r : Regs) (p : Ports) : BitVec 2 :=
  if Rule50.writes p 0x5 ∧ (commandBits p.busWdata = 0b001#3 ∨ commandBits p.busWdata = 0b010#3) then r.waveform
  else Rule50.waveform r p

/-- The masks the host's transaction makes. -/
def hostMasks (p : Ports) : Masks := { Masks.none with clr := Rule50.clr p, hset := Rule50.hset p }

/-- The elements after the host's transaction, the first operation of the cycle. -/
def hostRegs (r : Regs) (p : Ports) : Regs :=
  { r with
    srdySrc := if Rule50.writes p 0x0 then ctrlOfData p.busWdata else r.srdySrc
    note := if Rule50.writes p 0x1 then noteOfData p.busWdata else r.note
    octave := hostOctave r p
    waveform := hostWaveform r p
    volume := if Rule50.writes p 0x4 then volumeOfData p.busWdata else r.volume
    flags := mergeFlags r.flags (hostMasks p) }

/-- What the host's operation does to the machine `s` at the start of a cycle with the ports `p`. -/
def hostEffect (p : Ports) (s : State) : State :=
  { s with
    regs := hostRegs s.start p
    masks := hostMasks p
    outs := { s.outs with rdata := if p.busValid && !p.busWe then hostRead p.busAddr s.start else 0 } }

theorem clr_of_not_write {p : Ports} (h : (p.busValid && p.busWe) = false) : Rule50.clr p = 0 := by
  simp [Rule50.clr, Rule50.writes, h]

theorem hset_of_not_write {p : Ports} (h : (p.busValid && p.busWe) = false) : Rule50.hset p = 0 := by
  simp [Rule50.hset, Rule50.writes, h]

theorem hostMasks_of_not_write {p : Ports} (h : (p.busValid && p.busWe) = false) : hostMasks p = Masks.none := by
  rw [hostMasks, clr_of_not_write h, hset_of_not_write h]
  rfl

theorem hostRegs_of_not_write {r : Regs} {p : Ports} (h : (p.busValid && p.busWe) = false) : hostRegs r p = r := by
  simp [hostRegs, hostMasks_of_not_write h, hostOctave, hostWaveform, Rule50.octave, Rule50.waveform, Rule50.writes, h]

theorem hostEffect_of_not_write (s : State) {p : Ports} (h : (p.busValid && p.busWe) = false) :
    hostEffect p (beginCycle s) =
      (beginCycle s).driveRdata (if p.busValid && !p.busWe then hostRead p.busAddr s.regs else 0) := by
  rw [hostEffect, hostRegs_of_not_write h, hostMasks_of_not_write h]
  rfl

/-- Without a mask the host leaves FLAGS. -/
theorem hostEffect_of_no_mask (s : State) {p : Ports} (h : hostMasks p = Masks.none) :
    hostEffect p (beginCycle s) =
      { beginCycle s with
        regs := { hostRegs s.regs p with flags := s.regs.flags }
        outs := { s.regs.outputs with
          rdata := if p.busValid && !p.busWe then hostRead p.busAddr s.regs else 0 } } := by
  rw [hostEffect, hostRegs, h, beginCycle_start, mergeFlags_none]
  rfl

theorem exec_decodeRead (a : RegAddr) (s : State) :
    exec (decodeRead a) s = .next (s.driveRdata (hostRead a s.start)) := by
  obtain ⟨⟨n, lt⟩⟩ := a
  simp only [Nat.reducePow] at lt
  interval_cases n <;> rfl

theorem getLsbD_of_commandBits {d : Word} {cmd : BitVec 3} (h : commandBits d = cmd) :
    d.getLsbD 0 = cmd.getLsbD 0 ∧ d.getLsbD 1 = cmd.getLsbD 1 ∧ d.getLsbD 2 = cmd.getLsbD 2 := by
  subst h
  simp

/-- All four rows of a write of CMD at once (42_host_interface.md R172 to R175). -/
theorem exec_decodeCommand (d : Word) (s : State) :
    exec (decodeCommand d) s =
      .next { s with
        regs := { s.regs with
          octave := if commandBits d = 0b100#3 then s.regs.octave
            else octaveStep s.start.octave (d.getLsbD 0) (d.getLsbD 1)
          waveform := if commandBits d = 0b001#3 ∨ commandBits d = 0b010#3 then s.regs.waveform
            else waveStep s.start.waveform (d.getLsbD 2) }
        outs := { s.outs with rdata := 0 } } := by
  unfold decodeCommand
  by_cases up : commandBits d = 0b001#3
  · obtain ⟨b0, b1, -⟩ := getLsbD_of_commandBits up
    simp only [up, b0, b1]
    rfl
  by_cases down : commandBits d = 0b010#3
  · obtain ⟨b0, b1, -⟩ := getLsbD_of_commandBits down
    simp only [down, b0, b1]
    rfl
  by_cases wave : commandBits d = 0b100#3
  · obtain ⟨-, -, b2⟩ := getLsbD_of_commandBits wave
    simp only [wave, b2]
    rfl
  · simp only [up, down, wave, if_false, or_self, exec, execWrCmd, command_spec]

theorem exec_decodeWrite (s : State) {p : Ports} (valid : p.busValid = true) (we : p.busWe = true) :
    exec (decodeWrite p.busAddr p.busWdata) (beginCycle s) = .next (hostEffect p (beginCycle s)) := by
  obtain ⟨rst, tick, up, dn, wv, srdy, _, _, ⟨⟨n, lt⟩⟩, d⟩ := p
  subst valid we
  simp only [Nat.reducePow] at lt
  obtain parameter | rfl | rfl | rfl | no_effect : n < 5 ∨ n = 5 ∨ n = 6 ∨ n = 7 ∨ 7 < n := by omega
  · interval_cases n <;> (rw [hostEffect_of_no_mask s rfl]; rfl)
  · refine (exec_decodeCommand d _).trans ?_
    rw [hostEffect_of_no_mask s rfl]
    simp [hostRegs, hostOctave, hostWaveform, Rule50.octave, Rule50.waveform, Rule50.writes]
  · rfl
  · rfl
  · interval_cases n <;> (rw [hostEffect_of_no_mask s rfl]; rfl)

theorem exec_nop_beginCycle (s : State) : exec .nop (beginCycle s) = .next ((beginCycle s).driveRdata 0) := by
  have nothing_set : (beginCycle s).setHostMasks 0 0 = beginCycle s := by
    rw [setHostMasks_spec]
    exact congrArg (fun f => { beginCycle s with regs := { s.regs with flags := f } }) (mergeFlags_none s.regs.flags)
  simp only [exec, execNop, nothing_set]

/-- The host's operation in one equation (42_host_interface.md R160). -/
theorem exec_hostInstr (s : State) (p : Ports) :
    exec (hostInstr p) (beginCycle s) = .next (hostEffect p (beginCycle s)) := by
  cases valid : p.busValid with
  | false =>
    rw [hostEffect_of_not_write s (by simp [valid])]
    simpa [hostInstr, valid] using exec_nop_beginCycle s
  | true =>
    simp only [hostInstr, valid, if_true, Ports.transaction, decodeHost_hostWord]
    cases we : p.busWe with
    | false =>
      rw [hostEffect_of_not_write s (by simp [we])]
      simp [exec_decodeRead, valid, we]
    | true => exact exec_decodeWrite s valid we

/-! ## The whole cycle -/

/-- The elements after a cycle from `r` with the ports `p`, for every `r` (10_state.md R50; log 12). -/
def cycleRegs (c : Params) (r : Regs) (p : Ports) : Regs :=
  if p.rst then Regs.reset c
  else { Rule50.stepRegs c r p with octave := hostOctave r p, waveform := hostWaveform r p }

/-- All the masks of a cycle (10_state.md R50). -/
def cycleMasks (c : Params) (r : Regs) (p : Ports) : Masks where
  clr := Rule50.clr p
  hset := Rule50.hset p
  sset := Rule50.sset c r p
  bsetUp := Rule50.bset c r .up
  bsetDn := Rule50.bset c r .dn
  bsetWv := Rule50.bset c r .wv

/-- The machine after its next cycle. -/
def afterCycle (s : State) : State where
  cfg := s.cfg
  regs := cycleRegs s.cfg s.regs s.nextPorts
  start := cycleRegs s.cfg s.regs s.nextPorts
  masks := Masks.none
  ports := s.nextPorts
  outs := Rule50.outputs s.regs s.nextPorts
  inputs := s.inputs.tail

theorem cycleRegs_of_not_rst (c : Params) (r : Regs) {p : Ports} (h : p.rst = false) :
    cycleRegs c r p =
      { hostRegs r p with
        phase := if sampleNow c r p.tick then nextPhase c r else r.phase
        outCode := if sampleNow c r p.tick then sampleCode c r else r.outCode
        load := sampleNow c r p.tick
        tdiv := if p.tick && c.cadence == .two then !r.tdiv else r.tdiv
        pollCnt := Rule50.pollCnt c r p
        flags := mergeFlags r.flags (cycleMasks c r p)
        up := Rule50.button c r p .up
        dn := Rule50.button c r p .dn
        wv := Rule50.button c r p .wv
        rs1 := p.srdy
        rs2 := r.rs1
        rs3 := r.rs2 } := by
  simp only [cycleRegs, Rule50.stepRegs, h]
  rfl

/-- The engine, the sensor unit and the buttons after the host: each reads S alone, so each adds its own elements and
its own mask. -/
theorem unitEffects_hostEffect (s : State) (rst : s.nextPorts.rst = false) :
    endCycle (unitEffects (beginCycle s) (hostEffect s.nextPorts (beginCycle s))) = afterCycle s := by
  set t := ddsEffect (beginCycle s).ports.tick (hostEffect s.nextPorts (beginCycle s)) with t_def
  have dds := ddsEffect_spec (hostEffect s.nextPorts (beginCycle s)) (beginCycle s).ports.tick
  rw [← t_def] at dds
  have sensor := sensorEffect_spec (c := beginCycle s) (s := t) (by rw [dds]; rfl) (by rw [dds]; rfl)
    (by rw [dds]; rfl) (by rw [dds]; rfl) (by rw [dds]; rfl) (by rw [dds]; rfl)
  rw [unitEffects, ← t_def, sensor, dds, afterCycle, cycleRegs_of_not_rst _ _ rst, Rule50.outputs, Rule50.rdata, rst]
  rfl

/-- In a reset cycle and in every other (70_reset_and_hazards.md R220, 10_state.md R50). -/
theorem step_eq_afterCycle (s : State) : step s = .next (afterCycle s) := by
  cases rst : s.nextPorts.rst with
  | true =>
    rw [step_resetCycle rst]
    simp [endCycle, afterCycle, cycleRegs, rst, Rule50.outputs, Rule50.rdata, Regs.outputs]
  | false =>
    rw [step_cycle rst (exec_hostInstr s s.nextPorts), unitEffects_hostEffect s rst]

theorem afterCycle_pushPorts_regs (s : State) (p : Ports) :
    (afterCycle (s.pushPorts p)).regs = cycleRegs s.cfg s.regs p := rfl

theorem cycleRegs_btn (c : Params) (r : Regs) {p : Ports} (h : p.rst = false) (b : Button) :
    (cycleRegs c r p).btn b = Rule50.button c r p b := by
  rw [cycleRegs_of_not_rst c r h]
  cases b <;> rfl

theorem cycleRegs_flags (c : Params) (r : Regs) {p : Ports} (h : p.rst = false) :
    (cycleRegs c r p).flags = mergeFlags r.flags (cycleMasks c r p) := by
  rw [cycleRegs_of_not_rst c r h]

/-- Settles O18: without a write the host's part leaves every element. -/
theorem onlyTheHostWritesParameters : Obligations.OnlyTheHostWritesParameters := by
  intro s p rst noWrite
  refine ⟨_, step_eq_afterCycle _, ?_⟩
  rw [afterCycle_pushPorts_regs, cycleRegs_of_not_rst _ _ rst, hostRegs_of_not_write noWrite]
  exact ⟨rfl, rfl, rfl, rfl, rfl⟩

/-- Settles O19: the outputs are fixed from S at the start of the cycle. -/
theorem outputsFollowTheStartOfTheCycle : Obligations.OutputsFollowTheStartOfTheCycle := by
  intro s p
  refine ⟨_, step_eq_afterCycle _, rfl, rfl, rfl, ?_, ?_⟩
  · simp [afterCycle, Rule50.outputs]
  · simp [afterCycle, Rule50.outputs, Rule50.rdata, and_assoc]

/-- Settles O54: a button's elements after a cycle are `Rule50.button`, which looks at that button alone. -/
theorem buttonsDoNotInteract : Obligations.ButtonsDoNotInteract := by
  intro s u p q b rst rst' sameD sameElements sameLine
  refine ⟨_, _, step_eq_afterCycle _, step_eq_afterCycle _, ?_⟩
  rw [afterCycle_pushPorts_regs, afterCycle_pushPorts_regs, cycleRegs_btn _ _ rst, cycleRegs_btn _ _ rst',
    Rule50.button, Rule50.button, sameD, sameElements, sameLine]

/-- Settles O6: every operation completes, so a run splits at the operation presented. -/
theorem stepRunsThePresentedOperations : Obligations.StepRunsThePresentedOperations := by
  intro s
  refine ⟨fun rst => ⟨_, rfl, step_resetCycle rst⟩, fun rst i presented => ?_, fun i mem => ?_⟩
  · obtain ⟨t, ht⟩ := exec_total i (beginCycle s)
    obtain ⟨u, hu⟩ := runOps_total (operations (beginCycle s)).tail t
    refine ⟨t, u, ht, hu, step_of_runOps ?_⟩
    have host : unitOp .host (hostBits (beginCycle s)) = .op i := by rw [unitOp, presented]
    rw [operations_cycle _ rst, host] at hu ⊢
    rwa [runOps_cons_next (c := .op i) ht]
  · obtain ⟨pre, post, split⟩ := List.append_of_mem mem
    obtain ⟨t₁, h₁⟩ := runOps_total pre (beginCycle s)
    obtain ⟨t₂, h₂⟩ := exec_total i t₁
    obtain ⟨t₃, h₃⟩ := runOps_total post t₂
    refine ⟨pre, post, t₁, t₂, t₃, split, h₁, h₂, h₃, step_of_runOps ?_⟩
    rw [split, runOps_append _ h₁, runOps_cons_next (c := .op i) h₂, h₃]

end Sys2Proof.Machine
end

section
/-! FLAGS after a cycle, bit by bit: which mask holds which bit (10_state.md R36, R50), that a set wins over the host's
clear, and that the host sets the flags of its own mask only. -/

namespace Sys2Proof.Machine

open Sys2Proof Sys2Proof.Config Sys2Proof.Safety

/-! ## The bits of a cycle's masks -/

theorem writes_iff (p : Ports) (a : RegAddr) : Rule50.writes p a = true ↔ WritesTo p a := by
  simp [Rule50.writes, and_assoc]

theorem getLsbD_ite_zero {n : Nat} (P : Prop) [Decidable P] (m : BitVec n) (i : Nat) :
    (if P then m else 0).getLsbD i = true ↔ P ∧ m.getLsbD i = true := by
  split <;> simp [*]

theorem clr_getLsbD (p : Ports) (i : Fin 5) :
    (Rule50.clr p).getLsbD i = true ↔ WritesTo p 0x6 ∧ p.busWdata.getLsbD i = true := by
  rw [Rule50.clr, getLsbD_ite_zero, writes_iff, clearMaskOfData_getLsbD]

theorem hset_getLsbD (p : Ports) (i : Fin 5) :
    (Rule50.hset p).getLsbD i = true ↔ i.val = 4 ∧ WritesTo p 0x7 ∧ p.busWdata.getLsbD 4 = true := by
  rw [Rule50.hset, getLsbD_ite_zero, writes_iff, setMaskOfData_getLsbD, and_left_comm]

theorem bset_getLsbD (s : State) (b : Button) (i : Fin 5) :
    (Rule50.bset s.cfg s.regs b).getLsbD i = true ↔ Confirms b s ∧ (i.val = b.index ∨ i.val = 4) := by
  rw [Rule50.bset, getLsbD_ite_zero, debounce_confirm_iff, buttonFlags_getLsbD]

/-- The synchronized edge, its levels not normalised (41_input_bridge.md R141). -/
theorem readyEdge_iff (c : Params) (r : Regs) :
    readyEdge c r = true ↔ r.rs3 = (!c.srdyActiveHigh) ∧ r.rs2 = c.srdyActiveHigh := by
  unfold readyEdge sensorActive
  cases r.rs3 <;> cases r.rs2 <;> cases c.srdyActiveHigh <;> decide

theorem sset_getLsbD (s : State) (p : Ports) (i : Fin 5) :
    (Rule50.sset s.cfg s.regs p).getLsbD i = true ↔ SensorSets s p ∧ (i.val = 3 ∨ i.val = 4) := by
  unfold Rule50.sset SensorSets
  cases s.regs.srdySrc
  case true => simp only [if_true, getLsbD_ite_zero, Bool.and_eq_true, beq_iff_eq, sensorFlags_getLsbD]
  case false =>
    simp only [Bool.false_eq_true, if_false, getLsbD_ite_zero, readyEdge_iff, sensorFlags_getLsbD]

/-- The flags that the masks of the units set, grouped by mask and grouped by flag (10_state.md R36). -/
theorem flag_sources_iff (i : Fin 5) (kept host sensor up dn wv : Prop) :
    (((((kept ∨ i.val = 4 ∧ host) ∨ sensor ∧ (i.val = 3 ∨ i.val = 4)) ∨ up ∧ (i.val = 0 ∨ i.val = 4)) ∨
        dn ∧ (i.val = 1 ∨ i.val = 4)) ∨ wv ∧ (i.val = 2 ∨ i.val = 4)) ↔
      kept ∨ (i = 0 ∧ up) ∨ (i = 1 ∧ dn) ∨ (i = 2 ∧ wv) ∨ (i = 3 ∧ sensor) ∨
        (i = 4 ∧ (up ∨ dn ∨ wv ∨ sensor ∨ host)) := by
  simp only [Fin.ext_iff, Fin.isValue, Fin.coe_ofNat_eq_mod, Nat.reduceMod]
  tauto

/-- Settles O22: FLAGS is the merge of the masks, whose bits are their sources. -/
theorem flagsChangeOnlyByTheirSources : Obligations.FlagsChangeOnlyByTheirSources := by
  intro s p i rst
  refine ⟨_, step_eq_afterCycle _, ?_⟩
  rw [afterCycle_pushPorts_regs, cycleRegs_flags _ _ rst, mergeFlags_getLsbD]
  simp only [Bool.or_eq_true, Bool.and_eq_true, Bool.not_eq_true', ← Bool.not_eq_true, cycleMasks, clr_getLsbD,
    hset_getLsbD, sset_getLsbD, bset_getLsbD, Button.index]
  exact flag_sources_iff ..

/-! ## The host against the other units -/

/-- A set wins over whatever the host clears. -/
theorem mergeFlags_getLsbD_of_set {m : Masks} (no_host : m.hset = 0#5) {i : Nat}
    (set : (mergeFlags 0#5 m).getLsbD i = true) (f c h : BitVec 5) :
    (mergeFlags f { m with clr := c, hset := h }).getLsbD i = true := by
  simp only [mergeFlags_getLsbD, no_host, BitVec.getLsbD_zero, Bool.or_eq_true, Bool.false_and, Bool.false_eq_true,
    false_or] at set ⊢
  tauto

/-- The host sets the flags of its own mask and no other. -/
theorem mergeFlags_getLsbD_of_host {f c h : BitVec 5} {m : Masks} {i : Nat} (no_clear : m.clr = 0#5)
    (not_host : h.getLsbD i = false)
    (set : (mergeFlags f { m with clr := c, hset := h }).getLsbD i = true) :
    (mergeFlags f m).getLsbD i = true := by
  simp only [mergeFlags_getLsbD, no_clear, not_host, BitVec.getLsbD_zero, Bool.or_eq_true, Bool.and_eq_true,
    Bool.not_false, and_true, Bool.false_eq_true, or_false] at set ⊢
  tauto

/-- Settles O17: the units' elements and masks do not mention the bus ports. -/
theorem hostIsNotSeenByItsOwnCycle : Obligations.HostIsNotSeenByItsOwnCycle := by
  intro s p we a d rst idle
  refine ⟨_, _, _, step_eq_afterCycle _, step_eq_afterCycle _, step_eq_afterCycle _, ?_⟩
  set q : Ports := { p with busValid := true, busWe := we, busAddr := a, busWdata := d }
  have rst' : q.rst = false := rst
  have no_write : (p.busValid && p.busWe) = false := by simp [idle]
  simp only [afterCycle_pushPorts_regs, updRegs_cfg, updRegs_regs]
  rw [cycleRegs_of_not_rst s.cfg s.regs rst, cycleRegs_of_not_rst s.cfg s.regs rst',
    cycleRegs_of_not_rst s.cfg { s.regs with flags := 0 } rst]
  refine ⟨rfl, rfl, rfl, rfl, rfl, fun b => by cases b <;> rfl, rfl, rfl, rfl, fun i set => ?_, fun i ne set => ?_⟩
  · exact mergeFlags_getLsbD_of_set (m := cycleMasks s.cfg s.regs p) (hset_of_not_write no_write) set _
      (Rule50.clr q) (Rule50.hset q)
  · have not_host : (Rule50.hset q).getLsbD i = false := by
      rw [← Bool.not_eq_true, hset_getLsbD]
      exact fun h => ne (Fin.ext h.1)
    exact mergeFlags_getLsbD_of_host (m := cycleMasks s.cfg s.regs p) (clr_of_not_write no_write) not_host set

end Sys2Proof.Machine
end

section
/-! Legal states (10_state.md R43): from one a cycle is `Rule50.stepRegs`, and it leads to another. -/

namespace Sys2Proof.Machine

open Sys2Proof Sys2Proof.Config Sys2Proof.Safety

/-! ## The single-bit commands in a legal state -/

theorem writes_ne {p : Ports} {a b : RegAddr} (h : Rule50.writes p a = true) (ne : a ≠ b) :
    Rule50.writes p b = false := by
  obtain ⟨-, -, addr⟩ := (writes_iff p a).mp h
  simp [Rule50.writes, addr, ne]

theorem octaveStep_of_no_move {o : BitVec 3} (lo : -3 ≤ o.toInt) (hi : o.toInt ≤ 3) :
    octaveStep o false false = o := by
  simp [octaveStep, clamp_of_mem (v := o.toInt) (lo := octMin) (hi := octMax) lo hi]

theorem waveStep_of_no_move {w : BitVec 2} (le : w.toNat ≤ 2) : waveStep w false = w := by
  have fits : w.toNat % waveCount = w.toNat := Nat.mod_eq_of_lt (Nat.lt_succ_of_le le)
  simp [waveStep, fits]

theorem hostOctave_of_legal {r : Regs} (lo : -3 ≤ r.octave.toInt) (hi : r.octave.toInt ≤ 3) (p : Ports) :
    hostOctave r p = Rule50.octave r p := by
  unfold hostOctave
  split
  case isTrue h =>
    obtain ⟨command, wave⟩ := h
    obtain ⟨b0, b1, -⟩ := getLsbD_of_commandBits wave
    rw [Rule50.octave, writes_ne command (by decide), command, b0, b1]
    exact (octaveStep_of_no_move lo hi).symm
  case isFalse => rfl

theorem hostWaveform_of_legal {r : Regs} (le : r.waveform.toNat ≤ 2) (p : Ports) :
    hostWaveform r p = Rule50.waveform r p := by
  unfold hostWaveform
  split
  case isTrue h =>
    obtain ⟨command, octave⟩ := h
    have b2 : p.busWdata.getLsbD 2 = false := by
      rcases octave with up | down
      · exact (getLsbD_of_commandBits up).2.2
      · exact (getLsbD_of_commandBits down).2.2
    rw [Rule50.waveform, writes_ne command (by decide), command, b2]
    exact (waveStep_of_no_move le).symm
  case isFalse => rfl

theorem cycleRegs_of_legal {c : Params} {r : Regs} (legal : LegalRegs c r) (p : Ports) :
    cycleRegs c r p = Rule50.stepRegs c r p := by
  obtain ⟨-, ⟨lo, hi⟩, wave, -⟩ := legal
  cases rst : p.rst <;> simp [cycleRegs, Rule50.stepRegs, rst, hostOctave_of_legal lo hi, hostWaveform_of_legal wave]

/-- Settles O11: the machine departs from R50 only in the single-bit commands of states against R43. -/
theorem stepComputesTheCycleFunction : Obligations.StepComputesTheCycleFunction := by
  rintro s p ⟨-, legal⟩
  exact ⟨_, step_eq_afterCycle _, cycleRegs_of_legal legal p, rfl, rfl, rfl, rfl, rfl, rfl⟩

/-! ## What each rule writes is legal -/

theorem toInt_ofInt_clamp_octave (v : Int) :
    (BitVec.ofInt 3 (clamp v octMin octMax)).toInt = clamp v octMin octMax := by
  obtain ⟨lo, hi⟩ := clamp_le (v := v) (lo := octMin) (hi := octMax) (by decide)
  generalize clamp v octMin octMax = x at *
  unfold octMin at lo
  unfold octMax at hi
  interval_cases x <;> decide

theorem toNat_ofInt_clamp_le {n : Nat} (v : Int) {hi : Nat} (fits : hi < 2 ^ n) :
    (BitVec.ofInt n (clamp v 0 hi)).toNat ≤ hi := by
  obtain ⟨nonneg, le⟩ := clamp_le (v := v) (lo := 0) (hi := hi) (by omega)
  have stored := toNat_ofInt_of_fits (n := n) nonneg (by exact_mod_cast le.trans_lt (by exact_mod_cast fits))
  omega

theorem waveStep_le (w : BitVec 2) (b : Bool) : (waveStep w b).toNat ≤ 2 := by
  simp only [waveStep, waveCount, BitVec.toNat_ofNat]
  omega

theorem nextPhase_lt (c : Params) (r : Regs) : (nextPhase c r).toNat < phaseMod := by
  simp only [nextPhase, phaseMod, BitVec.toNat_ofNat]
  omega

theorem pollCnt_lt {c : Params} {r : Regs} (lt : r.pollCnt < c.pollPeriod) (p : Ports) :
    Rule50.pollCnt c r p < c.pollPeriod := by
  have pos : 0 < c.pollPeriod := by bv_omega
  unfold Rule50.pollCnt
  split
  · split
    · split
      · exact pos
      · bv_omega
    · exact lt
  · exact pos

theorem legalButton_nextButton {c : Params} {b : ButtonRegs} (legal : LegalButton c b) (fall raw : Bool) :
    LegalButton c (nextButton c.debounceCycles fall raw b) := by
  obtain ⟨lt, idle⟩ := legal
  have restart_lt : c.debounceCycles - 1 < c.debounceCycles := by bv_omega
  have zero_lt : 0 < c.debounceCycles := by bv_omega
  have down_lt (running : b.dbCnt ≠ 0) : b.dbCnt - 1 < c.debounceCycles := by bv_omega
  simp only [LegalButton, nextButton, debounce]
  cases state : b.dbState with
  | idle =>
    dsimp only
    split
    · exact ⟨restart_lt, nofun⟩
    · exact ⟨lt, fun _ => idle state⟩
  | check1 =>
    dsimp only
    split
    next running => exact ⟨down_lt running, nofun⟩
    split
    · exact ⟨restart_lt, nofun⟩
    · exact ⟨zero_lt, fun _ => rfl⟩
  | check2 =>
    dsimp only
    split
    next running => exact ⟨down_lt running, nofun⟩
    split <;> exact ⟨zero_lt, fun _ => rfl⟩

theorem legalRegs_reset {c : Params} (legal : c.Legal) : LegalRegs c (Regs.reset c) := by
  obtain ⟨period, count, -⟩ := legal
  have poll : 0 < c.pollPeriod := by bv_omega
  have button : LegalButton c ButtonRegs.reset := ⟨show 0 < c.debounceCycles by bv_omega, fun _ => rfl⟩
  exact ⟨by simp [Regs.reset], by simp [Regs.reset], by simp [Regs.reset], by simp [Regs.reset],
    by simp [Regs.reset, phaseMod], poll, button, button, button, fun _ => rfl⟩

theorem octave_mem {r : Regs} (legal : -3 ≤ r.octave.toInt ∧ r.octave.toInt ≤ 3) (p : Ports) :
    -3 ≤ (Rule50.octave r p).toInt ∧ (Rule50.octave r p).toInt ≤ 3 := by
  have stored (v : Int) := toInt_ofInt_clamp_octave v ▸ clamp_le (v := v) (lo := octMin) (hi := octMax) (by decide)
  unfold Rule50.octave
  split
  · exact stored _
  split
  · exact stored _
  · exact legal

theorem waveform_le {r : Regs} (legal : r.waveform.toNat ≤ 2) (p : Ports) : (Rule50.waveform r p).toNat ≤ 2 := by
  unfold Rule50.waveform
  split
  · exact toNat_ofInt_clamp_le _ (by decide)
  split
  · exact waveStep_le ..
  · exact legal

theorem legalRegs_stepRegs {c : Params} {r : Regs} (params : c.Legal) (legal : LegalRegs c r) (p : Ports) :
    LegalRegs c (Rule50.stepRegs c r p) := by
  cases rst : p.rst with
  | true =>
    rw [Rule50.stepRegs, if_pos rst]
    exact legalRegs_reset params
  | false =>
    obtain ⟨note, octave, waveform, volume, phase, poll, up, dn, wv, divider⟩ := legal
    simp only [Rule50.stepRegs, rst, Bool.false_eq_true, if_false]
    refine ⟨?note, octave_mem octave p, waveform_le waveform p, ?volume, ?phase, pollCnt_lt poll p,
      legalButton_nextButton up _ _, legalButton_nextButton dn _ _, legalButton_nextButton wv _ _, ?divider⟩
    case note =>
      dsimp only
      split
      · exact toNat_ofInt_clamp_le _ (by decide)
      · exact note
    case volume =>
      dsimp only
      split
      · exact toNat_ofInt_clamp_le _ (by decide)
      · exact volume
    case phase =>
      dsimp only
      split
      · exact nextPhase_lt c r
      · exact phase
    case divider =>
      intro one
      simp [one, divider one]

theorem defaults_legal : Config.defaults.Legal := by
  refine ⟨by decide, by decide, fun n => ?_⟩
  simp only [defaults, inc3Rom, Fin.getElem_fin, Vector.getElem_map]
  split
  · decide
  · assumption

/-- Settles O14: from a legal state a step is `Rule50.stepRegs`, whose every element is in its range. -/
theorem stepKeepsLegalStates : Obligations.StepKeepsLegalStates := by
  rintro s _ ⟨params, legal⟩ stepped
  rw [step_eq_afterCycle] at stepped
  obtain rfl := Host.Outcome.next.inj stepped
  have kept : LegalRegs s.cfg (cycleRegs s.cfg s.regs s.nextPorts) := by
    rw [cycleRegs_of_legal legal]
    exact legalRegs_stepRegs params legal _
  exact ⟨params, kept⟩

/-- Settles O15: the free tuning words of the default configuration are made legal by `inc3Rom`. -/
theorem resetStateIsLegal : Obligations.ResetStateIsLegal :=
  ⟨fun _ params => ⟨params, legalRegs_reset params⟩, defaults_legal, legalRegs_reset defaults_legal⟩

end Sys2Proof.Machine
end

section
/-! Memory (20_memory.md): the configuration is fixed, and the parameters of the host register space read back what was
written, each through its pair of a clamped write form and an extended read form (30_encoding.md R85 to R89). -/

namespace Sys2Proof.Machine

open Sys2Proof Sys2Proof.Config Sys2Proof.Safety

/-- Settles O16: `afterCycle` carries the configuration over. -/
theorem configurationNeverChanges : Obligations.ConfigurationNeverChanges := by
  intro s t stepped
  rw [step_eq_afterCycle] at stepped
  obtain rfl := Host.Outcome.next.inj stepped
  rfl

/-! ## A clamped value survives its register's width -/

theorem toInt_zeroExtend_ofInt_clamp {n : Nat} (narrow : n < 32) (v : Int) {hi : Nat} (fits : hi < 2 ^ n) :
    ((BitVec.ofInt n (clamp v 0 hi)).zeroExtend 32).toInt = clamp v 0 hi := by
  obtain ⟨nonneg, le⟩ := clamp_le (v := v) (lo := 0) (hi := hi) (by omega)
  have stored := toNat_ofInt_of_fits (n := n) nonneg (le.trans_lt (by exact_mod_cast fits))
  have bound : (2 : Nat) ^ n ≤ 2 ^ 31 := Nat.pow_le_pow_right (by decide) (Nat.le_of_lt_succ narrow)
  rw [BitVec.toInt_setWidth, stored]
  exact Int.bmod_eq_of_le (by omega) (by omega)

theorem toInt_signExtend_octaveOfData (d : Word) :
    ((octaveOfData d).signExtend 32).toInt = clamp d.toInt octMin octMax := by
  rw [BitVec.toInt_signExtend_of_le (by decide), octaveOfData, toInt_ofInt_clamp_octave]

theorem toNat_zeroExtend_ctrlOfData (d : Word) :
    ((BitVec.ofBool (ctrlOfData d)).zeroExtend 32).toNat = d.toNat % 2 := by
  rw [BitVec.toNat_setWidth, BitVec.toNat_ofBool, ctrlOfData, BitVec.getLsbD, Nat.toNat_testBit]
  omega

/-! ## A write of a parameter stores its data -/

section Write

variable (r : Regs) {p : Ports}

theorem hostRegs_srdySrc (ctrl : Rule50.writes p 0x0 = true) : (hostRegs r p).srdySrc = ctrlOfData p.busWdata :=
  if_pos ctrl

theorem hostRegs_note (note : Rule50.writes p 0x1 = true) : (hostRegs r p).note = noteOfData p.busWdata :=
  if_pos note

theorem hostRegs_octave (octave : Rule50.writes p 0x2 = true) : (hostRegs r p).octave = octaveOfData p.busWdata := by
  have no_command := writes_ne octave (b := 0x5) (by decide)
  rw [hostRegs, hostOctave, Rule50.octave, no_command, octave]
  simp

theorem hostRegs_waveform (waveform : Rule50.writes p 0x3 = true) :
    (hostRegs r p).waveform = waveformOfData p.busWdata := by
  have no_command := writes_ne waveform (b := 0x5) (by decide)
  rw [hostRegs, hostWaveform, Rule50.waveform, no_command, waveform]
  simp

theorem hostRegs_volume (volume : Rule50.writes p 0x4 = true) : (hostRegs r p).volume = volumeOfData p.busWdata :=
  if_pos volume

end Write

/-! ## A read one cycle later -/

theorem rdata_of_read {r : Regs} {p : Ports} (rst : p.rst = false) (valid : p.busValid = true)
    (read : p.busWe = false) : Rule50.rdata r p = hostRead p.busAddr r := by
  simp [Rule50.rdata, rst, valid, read]

/-- Two cycles, the second with a read: it sees the elements that the first left (20_memory.md R68). -/
theorem rdata_of_read_in_next_cycle {s : State} {p q : Ports} {rest : List Ports} (inputs : s.inputs = p :: q :: rest)
    (rst : q.rst = false) (valid : q.busValid = true) (read : q.busWe = false) :
    (afterCycle (afterCycle s)).outs.rdata = hostRead q.busAddr (cycleRegs s.cfg s.regs p) := by
  have first : s.nextPorts = p := by simp [State.nextPorts, inputs]
  have second : (afterCycle s).nextPorts = q := by simp [State.nextPorts, afterCycle, inputs]
  have regs : (afterCycle s).regs = cycleRegs s.cfg s.regs p := by rw [afterCycle, first]
  calc (afterCycle (afterCycle s)).outs.rdata
    _ = Rule50.rdata (afterCycle s).regs (afterCycle s).nextPorts := rfl
    _ = hostRead q.busAddr (cycleRegs s.cfg s.regs p) := by rw [second, regs, rdata_of_read rst valid read]

/-- Settles O21: the read returns the register as the write before it left it, and the register is wide enough for the
clamped value. -/
theorem writtenParametersReadBackClamped : Obligations.WrittenParametersReadBackClamped := by
  intro s p q rest inputs rst valid we rst' valid' read sameAddr
  have writes {a : RegAddr} (addr : p.busAddr = a) : Rule50.writes p a = true :=
    (writes_iff p a).mpr ⟨valid, we, addr⟩
  refine ⟨_, _, step_eq_afterCycle _, step_eq_afterCycle _, ?_⟩
  rw [rdata_of_read_in_next_cycle inputs rst' valid' read, sameAddr, cycleRegs_of_not_rst _ _ rst]
  refine ⟨fun note => ?_, fun octave => ?_, fun waveform => ?_, fun volume => ?_, fun ctrl => ?_⟩
  · rw [note]
    change ((hostRegs s.regs p).note.zeroExtend 32).toInt = _
    rw [hostRegs_note _ (writes note)]
    exact toInt_zeroExtend_ofInt_clamp (by decide) _ (by decide)
  · rw [octave]
    change ((hostRegs s.regs p).octave.signExtend 32).toInt = _
    rw [hostRegs_octave _ (writes octave)]
    exact toInt_signExtend_octaveOfData _
  · rw [waveform]
    change ((hostRegs s.regs p).waveform.zeroExtend 32).toInt = _
    rw [hostRegs_waveform _ (writes waveform)]
    exact toInt_zeroExtend_ofInt_clamp (by decide) _ (by decide)
  · rw [volume]
    change ((hostRegs s.regs p).volume.zeroExtend 32).toInt = _
    rw [hostRegs_volume _ (writes volume)]
    exact toInt_zeroExtend_ofInt_clamp (by decide) _ (by decide)
  · rw [ctrl]
    change ((BitVec.ofBool (hostRegs s.regs p).srdySrc).zeroExtend 32).toNat = _
    rw [hostRegs_srdySrc _ (writes ctrl)]
    exact toNat_zeroExtend_ctrlOfData _

end Sys2Proof.Machine
end

section
/-! The decoder and the encoder as inverses (30_encoding.md R84, R97): the words of read and write rows decode by their
address alone, and a decoded row's own word has that address. -/

namespace Sys2Proof

open Sys2Proof.Machine

/-! ## The row of a command (30_encoding.md R90) -/

theorem singleCommand_eq_true_iff (d : Word) :
    singleCommand d = true ↔ commandBits d = 0b001#3 ∨ commandBits d = 0b010#3 ∨ commandBits d = 0b100#3 := by
  simp [singleCommand, or_assoc]

theorem decodeCommand_of_not_single {d : Word} (general : singleCommand d = false) : decodeCommand d = .wrCmd d := by
  rw [← Bool.not_eq_true, singleCommand_eq_true_iff] at general
  simp only [not_or] at general
  obtain ⟨not_up, not_down, not_wave⟩ := general
  rw [decodeCommand, if_neg not_up, if_neg not_down, if_neg not_wave]

theorem decodeCommand_of_single {d : Word} (single : singleCommand d = true) :
    decodeCommand d = .wrCmdOctUp ∨ decodeCommand d = .wrCmdOctDown ∨ decodeCommand d = .wrCmdWaveNext := by
  obtain up | down | wave := (singleCommand_eq_true_iff d).mp single
  · exact .inl (by simp only [decodeCommand, up, if_true])
  · exact .inr (.inl (by simp only [decodeCommand, down]; rfl))
  · exact .inr (.inr (by simp only [decodeCommand, wave]; rfl))

/-- The row of a command is well formed, and its own word is a write of CMD. -/
theorem decodeCommand_isRow (d : Word) :
    wellFormed (decodeCommand d) = true ∧ ∃ own, encode (decodeCommand d) = writeWord 0x5 own := by
  cases form : singleCommand d with
  | false =>
    rw [decodeCommand_of_not_single form]
    exact ⟨by simp [wellFormed, form], d, rfl⟩
  | true =>
    obtain row | row | row := decodeCommand_of_single form <;> rw [row] <;> exact ⟨rfl, _, rfl⟩

/-! ## The row of an address (30_encoding.md R84) -/

theorem decodeRead_isRow (a : RegAddr) :
    wellFormed (decodeRead a) = true ∧ encode (decodeRead a) = readWord a := by
  obtain ⟨⟨n, lt⟩⟩ := a
  simp only [Nat.reducePow] at lt
  interval_cases n <;> exact ⟨rfl, rfl⟩

theorem decodeWrite_isRow (a : RegAddr) (d : Word) :
    wellFormed (decodeWrite a d) = true ∧ ∃ own, encode (decodeWrite a d) = writeWord a own := by
  obtain ⟨⟨n, lt⟩⟩ := a
  simp only [Nat.reducePow] at lt
  obtain below | rfl | above : n < 5 ∨ n = 5 ∨ 5 < n := by omega
  · interval_cases n <;> exact ⟨rfl, _, rfl⟩
  · exact decodeCommand_isRow d
  · interval_cases n <;> exact ⟨rfl, _, rfl⟩

theorem decode_readWord (a : RegAddr) : decode (readWord a) = .ok (decodeRead a) := by
  rw [readWord, decode, decodeHost_hostWord]
  rfl

theorem decode_writeWord (a : RegAddr) (d : Word) : decode (writeWord a d) = .ok (decodeWrite a d) := by
  rw [writeWord, decode, decodeHost_hostWord]
  rfl

/-! ## Decoding and encoding -/

theorem decode_encode {i : Instr} (wf : wellFormed i = true) : decode (encode i) = .ok i := by
  cases i with
  | wrCmd data =>
    have general : singleCommand data = false := by simpa [wellFormed] using wf
    have row : decodeWrite 0x5 data = .wrCmd data := decodeCommand_of_not_single general
    rw [encode, decode_writeWord, row]
  | rdCtrl | rdNote | rdOctave | rdWaveform | rdVolume | rdCmd | rdFlags | rdFlagsSet | rdPhase | rdOutCode | rdStatus
  | rdRsvd11 | rdRsvd12 | rdRsvd13 | rdRsvd14 | rdRsvd15 => exact decode_readWord _
  | wrCtrl | wrNote | wrOctave | wrWaveform | wrVolume | wrFlags | wrFlagsSet | wrPhase | wrOutCode | wrStatus
  | wrRsvd11 | wrRsvd12 | wrRsvd13 | wrRsvd14 | wrRsvd15 | wrCmdOctUp | wrCmdOctDown | wrCmdWaveNext =>
    exact decode_writeWord ..
  | nop | tick | btnFallUp | btnFallDn | btnFallWv | srdyEdge | pollTick | reset => rfl

/-- Settles O2: a transaction word decodes by its fields, and a port event's bits by evaluation. -/
theorem encodedOperationsDecodeBack : Obligations.EncodedOperationsDecodeBack :=
  fun _ => decode_encode

/-- Settles O3: a word is the word of its fields, whose W picks the table and whose ADDR picks the row. -/
theorem everyTransactionWordSelectsARow : Obligations.EveryTransactionWordSelectsARow := by
  intro w
  cases we : wField w with
  | false =>
    obtain ⟨wf, own⟩ := decodeRead_isRow (addrField w)
    exact ⟨_, 0, by simp [decode, decodeHost, we], wf, own⟩
  | true =>
    obtain ⟨wf, d, own⟩ := decodeWrite_isRow (addrField w) (dataField w)
    exact ⟨_, d, by simp [decode, decodeHost, we], wf, own⟩

/-- Settles O1 by running the decoder on the words. -/
theorem specWordsDecodeToTheirOperations : Obligations.SpecWordsDecodeToTheirOperations := by
  unfold Obligations.SpecWordsDecodeToTheirOperations
  decide

end Sys2Proof
end

section
/-! Host programs (30_encoding.md R98, R99): what one statement presents, a repeated statement, and the lines that a
program keeps. -/

namespace Sys2Proof.Machine

open Sys2Proof Sys2Proof.Config

theorem presentedIn_assemble_write (prev : Ports) (r : RegName) (v : Int) {w : HostWord}
    (word : hostWord true r.addr (BitVec.ofInt 32 v) = w) :
    presentedIn (assemble prev [{ act := .wr r v }]) = [(false, false, true, w)] := by
  subst word
  rfl

theorem hostWord_wrFlags (m : BitVec 5) :
    hostWord true 0x6 (BitVec.ofInt 32 m.toNat) = 0x16_0000_0000#37 ||| m.zeroExtend 37 := by
  revert m
  decide

theorem map_assemble_replicate {α : Type} {f : Ports → α} {t : Stmt} {a : α} (each : ∀ prev, f (t.ports prev) = a)
    (n : Nat) (prev : Ports) : (assemble prev (List.replicate n t)).map f = List.replicate n a := by
  induction n generalizing prev with
  | zero => rfl
  | succ n ih => rw [List.replicate_succ, List.replicate_succ, assemble, List.map_cons, each, ih]

/-- What every statement of a program keeps holds in all its cycles. -/
theorem assemble_keeps {α : Type} {f : Ports → α} {prog : List Stmt}
    (keeps : ∀ t ∈ prog, ∀ prev, f (t.ports prev) = f prev) (prev : Ports) :
    ∀ p ∈ assemble prev prog, f p = f prev := by
  induction prog generalizing prev with
  | nil => nofun
  | cons t ts ih =>
    have head : f (t.ports prev) = f prev := keeps t List.mem_cons_self prev
    have later := ih (fun u mem => keeps u (List.mem_cons_of_mem t mem)) (t.ports prev)
    intro p mem
    obtain rfl | mem := List.mem_cons.mp mem
    · exact head
    · exact (later p mem).trans head

/-- The button lines and the sensor line, which a cycle's ports keep unless a statement lists them (R98). -/
def Ports.lines (p : Ports) : (Button → Bool) × Bool := (p.btn, p.srdy)

theorem HostAct.apply_hold_lines (act : HostAct) (prev : Ports) : (act.apply prev.hold).lines = prev.lines := by
  cases act <;> rfl

theorem Stmt.ports_lines {t : Stmt} (no_line : t.settings = [] ∨ t.settings = [.tick]) (prev : Ports) :
    (t.ports prev).lines = prev.lines := by
  have act := t.act.apply_hold_lines prev
  obtain none | tick := no_line
  · rwa [Stmt.ports, none]
  · rwa [Stmt.ports, tick]

theorem Pseudo.expand_settings {K : Type} [Field K] [LinearOrder K] [FloorRing K] (i : Pseudo K) :
    ∀ t ∈ i.expand, t.settings = [] ∨ t.settings = [.tick] := by
  intro t mem
  cases i with
  | ticks n => exact .inr (congrArg Stmt.settings (List.eq_of_mem_replicate mem))
  | wait n => exact .inl (congrArg Stmt.settings (List.eq_of_mem_replicate mem))
  | octUp | octDn | waveNext | ack | dirty | setNote | srcEdge | srcPoll =>
    exact .inl (congrArg Stmt.settings (List.mem_singleton.mp mem))

/-- Settles O4: a pseudo-instruction is one write or one statement repeated, and lists no line. -/
theorem pseudoInstructionsAssembleToTheirWords : Obligations.PseudoInstructionsAssembleToTheirWords := by
  intro prev
  have write (r : RegName) (v : Int) {w : HostWord} (word : hostWord true r.addr (BitVec.ofInt 32 v) = w) :=
    presentedIn_assemble_write prev r v word
  refine ⟨write .cmd 1 (by decide), write .cmd 2 (by decide), write .cmd 4 (by decide),
    fun m => write .flags _ (hostWord_wrFlags m), write .flagsSet 0x10 (by decide), fun x => write .note _ rfl,
    write .ctrl 0 (by decide), write .ctrl 1 (by decide), ?ticks, ?wait, fun i p mem => ?lines⟩
  case ticks => exact fun n => map_assemble_replicate (fun _ => rfl) n prev
  case wait => exact fun n => map_assemble_replicate (fun _ => rfl) n prev
  case lines =>
    have keeps := fun t listed => Stmt.ports_lines (i.expand_settings t listed)
    obtain ⟨buttons, sensor⟩ := Prod.mk.inj (assemble_keeps keeps prev p mem)
    exact ⟨congrFun buttons, sensor⟩

end Sys2Proof.Machine
end

section
/-! An operation whose bits are placed is presented: the unit of its format decodes it in the next cycle
(30_encoding.md R80, R97). -/

namespace Sys2Proof.Machine

open Sys2Proof Sys2Proof.Config

theorem mem_operations_iff {s : State} (rst : s.ports.rst = false) (c : CycleOp) :
    c ∈ operations s ↔
      c = unitOp .host (hostBits s) ∨ c = unitOp .dds (tickBits s) ∨ c = sensorOp s ∨
        ∃ b, c = unitOp (.button b) (btnBits b s) := by
  have some_button : (∃ b, c = unitOp (.button b) (btnBits b s)) ↔
      c = unitOp (.button .up) (btnBits .up s) ∨ c = unitOp (.button .dn) (btnBits .dn s) ∨
        c = unitOp (.button .wv) (btnBits .wv s) := by
    constructor
    · rintro ⟨b, rfl⟩
      cases b <;> simp
    · rintro (h | h | h) <;> exact ⟨_, h⟩
  rw [operations_cycle s rst, some_button]
  simp

section Placed

variable (s : State)

theorem placed_host37 {i : Instr} {w : HostWord} (row : decode (.host37 w) = .ok i) :
    CycleOp.op i ∈ operations (beginCycle (s.present (.host37 w))) := by
  have op : decodeHost w = i := Except.ok.inj row
  have word : (beginCycle (s.present (.host37 w))).ports.transaction = w := hostWord_eta w
  refine (mem_operations_iff rfl _).mpr (.inl ?_)
  rw [unitOp_host _ rfl, word, op]
  rfl

theorem placed_nop : CycleOp.op .nop ∈ operations (beginCycle (s.present (encode .nop))) := by
  refine (mem_operations_iff rfl _).mpr (.inl ?_)
  rw [unitOp_host _ rfl]
  rfl

theorem placed_tick : CycleOp.op .tick ∈ operations (beginCycle (s.present (encode .tick))) := by
  refine (mem_operations_iff rfl _).mpr (.inr (.inl ?_))
  rw [unitOp_dds _ rfl]
  rfl

theorem placed_btnFall (b : Button) :
    CycleOp.op (Instr.btnFall b) ∈ operations (beginCycle (s.present (encode (Instr.btnFall b)))) := by
  refine (mem_operations_iff (by cases b <;> rfl) _).mpr (.inr (.inr (.inr ⟨b, ?_⟩)))
  rw [unitOp_button _ b (by cases b <;> rfl)]
  cases b <;> rfl

theorem placed_srdyEdge : CycleOp.op .srdyEdge ∈ operations (beginCycle (s.present (encode .srdyEdge))) := by
  have edge : readyEdge s.cfg (beginCycle (s.present (encode .srdyEdge))).start = true := by
    rw [readyEdge_iff]
    exact ⟨Bool.false_xor _, by simp [encode, State.present]⟩
  refine (mem_operations_iff rfl _).mpr (.inr (.inr (.inl ?_)))
  rw [sensorOp_eq _ rfl]
  exact (if_pos edge).symm

theorem placed_pollTick : CycleOp.op .pollTick ∈ operations (beginCycle (s.present (encode .pollTick))) := by
  refine (mem_operations_iff rfl _).mpr (.inr (.inr (.inl ?_)))
  rw [sensorOp_eq _ rfl]
  rfl

theorem placed_reset : CycleOp.op .reset ∈ operations (beginCycle (s.present (encode .reset))) := by
  rw [operations_reset _ rfl]
  exact List.mem_singleton_self _

end Placed

/-- Settles O5: each format is the bits of one unit, and RESET is alone in its cycle. -/
theorem placedOperationIsPresented : Obligations.PlacedOperationIsPresented := by
  intro s i wf
  cases i with
  | nop => exact placed_nop s
  | tick => exact placed_tick s
  | btnFallUp => exact placed_btnFall s .up
  | btnFallDn => exact placed_btnFall s .dn
  | btnFallWv => exact placed_btnFall s .wv
  | srdyEdge => exact placed_srdyEdge s
  | pollTick => exact placed_pollTick s
  | reset => exact placed_reset s
  | _ => exact placed_host37 s (decode_encode wf)

end Sys2Proof.Machine
end

section
/-! A cycle without a write does not see the bus (30_encoding.md R82, 20_memory.md R65). -/

namespace Sys2Proof.Machine

open Sys2Proof Sys2Proof.Config

theorem cycleMasks_of_not_write (c : Params) (r : Regs) {p : Ports} (h : (p.busValid && p.busWe) = false) :
    cycleMasks c r p = { cycleMasks c r p with clr := 0, hset := 0 } := by
  rw [cycleMasks, clr_of_not_write h, hset_of_not_write h]

theorem cycleRegs_bus_of_not_write (c : Params) (r : Regs) {p : Ports} (no_write : (p.busValid && p.busWe) = false)
    {valid we : Bool} (no_write' : (valid && we) = false) (a : RegAddr) (d : Word) :
    cycleRegs c r { p with busValid := valid, busWe := we, busAddr := a, busWdata := d } = cycleRegs c r p := by
  set q : Ports := { p with busValid := valid, busWe := we, busAddr := a, busWdata := d }
  have bus : (q.busValid && q.busWe) = false := no_write'
  cases rst : p.rst with
  | true => rw [cycleRegs, cycleRegs, if_pos rst, if_pos (show q.rst = true from rst)]
  | false =>
    rw [cycleRegs_of_not_rst c r rst, cycleRegs_of_not_rst c r (show q.rst = false from rst),
      hostRegs_of_not_write no_write, hostRegs_of_not_write bus, cycleMasks_of_not_write c r no_write,
      cycleMasks_of_not_write c r bus]
    rfl

/-- Settles O20: a read makes no write, so the registers do not depend on its bus ports, and its result is looked up by
the address alone. -/
theorem readsIgnoreDataAndChangeNothing : Obligations.ReadsIgnoreDataAndChangeNothing := by
  intro s p d rst valid read
  have no_write : (p.busValid && p.busWe) = false := by simp [read]
  refine ⟨_, _, _, step_eq_afterCycle _, rdata_of_read rst valid read, step_eq_afterCycle _, ?otherData, rfl,
    step_eq_afterCycle _, ?noTransaction⟩
  case otherData => exact cycleRegs_bus_of_not_write s.cfg s.regs no_write no_write p.busAddr d
  case noTransaction =>
    exact cycleRegs_bus_of_not_write s.cfg s.regs no_write (Bool.false_and _) p.busAddr p.busWdata

end Sys2Proof.Machine
end

section
/-! The falling-edge operations (41_input_bridge.md R140): a button's elements after its effect, whatever the edge. -/

namespace Sys2Proof.Machine

open Sys2Proof Sys2Proof.Config

theorem debounceTransition_nextButton (d : BitVec 16) (fall raw : Bool) (b : ButtonRegs) :
    DebounceTransition d b (nextButton d fall raw b) := by
  simp only [DebounceTransition, nextButton, debounce]
  cases b.dbState with
  | idle => cases b.edgeLatch <;> simp
  | check1 | check2 =>
    by_cases expired : b.dbCnt = 0#16
    · cases b.bs2 <;> simp [expired]
    · simp [expired]

theorem exec_btnFall (b : Button) (s : State) : exec (Instr.btnFall b) s = .next (buttonEffect b true s) := by
  cases b <;> rfl

/-- Settles O49: the operation is `buttonEffect`, whose confirmation is the second re-check of an asserted line. -/
theorem fallingEdgeOperations : Obligations.FallingEdgeOperations := by
  intro b s
  refine ⟨nextButton s.cfg.debounceCycles true (s.ports.btn b) (s.start.btn b),
    if (debounce s.cfg.debounceCycles (s.start.btn b)).confirm then buttonFlags b else 0, ?_, rfl, rfl, rfl, ?_,
    debounceTransition_nextButton .., fun i => ?_⟩
  · rw [exec_btnFall, buttonEffect_spec]
  · exact (nextButton_edgeLatch ..).mpr (.inl rfl)
  · rw [getLsbD_ite_zero, debounce_confirm_iff, buttonFlags_getLsbD, Fin.ext_iff]
    rfl

end Sys2Proof.Machine
end

section
/-! The six steps of a sample in integers (40_dds_engine.md R103 to R110): one lemma per step, in the order of the
steps. -/

namespace Sys2Proof.Machine

open Sys2Proof Sys2Proof.Config Sys2Proof.Safety

/-! ## Step 1, note selection -/

theorem noteIndex_val (note : BitVec 12) : (noteIndex note).val = (min note.toNat 0xC00 + 0x80) / 2 ^ 8 :=
  Nat.shiftRight_eq_div_pow _ _

/-- Settles O42: adding one half and dropping the fraction bits is rounding half up. -/
theorem noteIndexRoundsHalfUp : Obligations.NoteIndexRoundsHalfUp := by
  refine ⟨noteIndex_val, fun note legal => ?_, by decide, by decide, by decide, by decide⟩
  rw [noteIndex_val, min_eq_left legal]
  omega

/-! ## Step 2, phase increment -/

theorem phaseIncrement_of_octave_ge (c : Params) {r : Regs} (lo : -3 ≤ r.octave.toInt) :
    phaseIncrement c r = c.inc3[noteIndex r.note].toNat * 2 ^ (r.octave.toInt + 3).toNat :=
  if_pos (show 0 ≤ r.octave.toInt + 3 by omega)

theorem phaseIncrement_pos {c : Params} {r : Regs} (params : c.Legal) (lo : -3 ≤ r.octave.toInt) :
    1 ≤ phaseIncrement c r := by
  obtain ⟨-, -, words⟩ := params
  have word_pos := (ne_zero_iff_one_le_toNat _).mp (words (noteIndex r.note))
  rw [phaseIncrement_of_octave_ge c lo]
  exact Nat.mul_pos word_pos (by positivity)

/-- A 32-bit tuning word shifted left by at most 6 (R105). -/
theorem phaseIncrement_lt (c : Params) {r : Regs} (lo : -3 ≤ r.octave.toInt) (hi : r.octave.toInt ≤ 3) :
    phaseIncrement c r < 2 ^ 38 := by
  rw [phaseIncrement_of_octave_ge c lo]
  calc c.inc3[noteIndex r.note].toNat * 2 ^ (r.octave.toInt + 3).toNat
    _ < 2 ^ 32 * 2 ^ (r.octave.toInt + 3).toNat := by gcongr; exact BitVec.isLt _
    _ ≤ 2 ^ 32 * 2 ^ 6 := by gcongr <;> omega
    _ = 2 ^ 38 := by norm_num

theorem phaseIncrement_octave_succ (c : Params) {r : Regs} (lo : -3 ≤ r.octave.toInt) {o : BitVec 3}
    (next : o.toInt = r.octave.toInt + 1) :
    phaseIncrement c { r with octave := o } = 2 * phaseIncrement c r := by
  have shift : (o.toInt + 3).toNat = (r.octave.toInt + 3).toNat + 1 := by omega
  rw [phaseIncrement_of_octave_ge c lo, phaseIncrement_of_octave_ge c (show -3 ≤ o.toInt by omega), shift, pow_succ]
  ring

/-- Settles O43: in the legal range the octave's shift is a left shift. -/
theorem incrementDoublesWithTheOctave : Obligations.IncrementDoublesWithTheOctave := by
  rintro c r params ⟨-, ⟨lo, hi⟩, -⟩
  exact ⟨phaseIncrement_of_octave_ge c lo, phaseIncrement_pos params lo, phaseIncrement_lt c lo hi,
    fun o next => phaseIncrement_octave_succ c lo next⟩

/-! ## Step 3, lookup -/

theorem tableIndex_toNat (phase : BitVec 32) : (tableIndex phase).toNat = phase.toNat / 2 ^ 27 := by
  rw [tableIndex, BitVec.extractLsb'_toNat, Nat.shiftRight_eq_div_pow]
  omega

theorem lookup_of_lt (c : Params) {r : Regs} {w : Fin 3} {k : Fin 20} (wave : w.val = r.waveform.toNat)
    (index : k.val = r.phase.toNat / 2 ^ 27) : lookup c r = (c.wave[w])[k].toInt := by
  obtain ⟨w, w_lt⟩ := w
  obtain ⟨k, k_lt⟩ := k
  obtain rfl : w = r.waveform.toNat := wave
  obtain rfl : k = (tableIndex r.phase).toNat := index.trans (tableIndex_toNat _).symm
  exact congrArg BitVec.toInt (dif_pos ⟨w_lt, k_lt⟩)

/-! ## Step 4, scale, offset and clamp -/

@[simp] theorem scale_volume_zero (x : Int) : scale x 0 = 0 := by simp [scale]

/-- R107 for the product's size: a product is a natural number or its negative, and `tdiv` divides the size. -/
theorem scale_toward_zero (x : Int) (v : BitVec 7) :
    |100 * scale x v| ≤ |x * v.toNat| ∧ |x * v.toNat| < |100 * scale x v| + 100 ∧
      0 ≤ scale x v * (x * v.toNat) := by
  unfold scale
  have quotient (n : Nat) : (n : Int).tdiv 100 = (n / 100 : Nat) := rfl
  obtain ⟨n, product | product⟩ := (x * v.toNat).eq_nat_or_neg
  case inl =>
    rw [product, quotient, abs_of_nonneg (by positivity), abs_of_nonneg (by positivity)]
    exact ⟨by omega, by omega, by positivity⟩
  case inr =>
    rw [product, Int.neg_tdiv, quotient, mul_neg, abs_neg, abs_neg, neg_mul_neg, abs_of_nonneg (by positivity),
      abs_of_nonneg (by positivity)]
    exact ⟨by omega, by omega, by positivity⟩

theorem sample_mem (x : Sample) : -2048 ≤ x.toInt ∧ x.toInt ≤ 2047 :=
  ⟨x.le_toInt, Int.le_of_lt_add_one x.toInt_lt⟩

theorem abs_sample_mul_volume_le (x : Sample) {v : BitVec 7} (legal : v.toNat ≤ 100) :
    |x.toInt * v.toNat| ≤ 204800 := by
  obtain ⟨lo, hi⟩ := sample_mem x
  have sample : |x.toInt| ≤ 2048 := abs_le.mpr ⟨lo, by omega⟩
  calc |x.toInt * v.toNat|
    _ = |x.toInt| * v.toNat := by rw [abs_mul, Nat.abs_cast]
    _ ≤ 2048 * 100 := by gcongr; exact_mod_cast legal
    _ = 204800 := by norm_num

/-- A legal volume keeps any range around 0 that the sample is in. -/
theorem scale_mem {x lo hi : Int} {v : BitVec 7} (legal : v.toNat ≤ 100) (lo_le : lo ≤ x) (le_hi : x ≤ hi)
    (lo_nonpos : lo ≤ 0) (hi_nonneg : 0 ≤ hi) : lo ≤ scale x v ∧ scale x v ≤ hi := by
  have product_lo : lo * 100 ≤ x * v.toNat := by nlinarith
  have product_hi : x * v.toNat ≤ hi * 100 := by nlinarith
  have hundredth (n : Int) : (n * 100).tdiv 100 = n := Int.mul_tdiv_cancel n (by decide)
  exact ⟨(hundredth lo).ge.trans (Int.tdiv_le_tdiv (by decide) product_lo),
    (Int.tdiv_le_tdiv (by decide) product_hi).trans (hundredth hi).le⟩

/-- Settles O44: `tdiv` by 100 divides the size and keeps the sign. -/
theorem scalingRoundsTowardZero : Obligations.ScalingRoundsTowardZero :=
  ⟨scale_toward_zero, fun x _ legal => abs_sample_mul_volume_le x legal, scale_volume_zero, by decide, by decide,
    by decide⟩

theorem outputCode_toNat (q : Int) : ((outputCode q).toNat : Int) = clamp (q + 2048) 0 4095 := by
  obtain ⟨nonneg, le⟩ := clamp_le (v := q + 2048) (lo := 0) (hi := 4095) (by decide)
  have fits : clamp (q + 2048) 0 4095 < 2 ^ 12 := by omega
  exact toNat_ofInt_of_fits nonneg fits

theorem sampleCode_of_volume_zero (c : Params) {r : Regs} (mute : r.volume = 0) : sampleCode c r = 2048 := by
  rw [sampleCode, mute, scale_volume_zero]
  rfl

/-- Settles O45: the scaled sample is in the sample's own range, which the offset moves to 0 .. 4095. -/
theorem outputClampNeverActs : Obligations.OutputClampNeverActs := by
  refine ⟨fun q => ⟨outputCode_toNat q, Nat.le_of_lt_succ (BitVec.isLt _)⟩, fun x v legal => ?_⟩
  obtain ⟨sample_lo, sample_hi⟩ := sample_mem x
  obtain ⟨lo, hi⟩ := scale_mem legal sample_lo sample_hi (by decide) (by decide)
  refine ⟨lo, hi, ?_⟩
  rw [outputCode_toNat, clamp_of_mem (by omega) (by omega)]

/-! ## Step 6, advance -/

theorem nextPhase_toNat (c : Params) (r : Regs) :
    (nextPhase c r).toNat = (r.phase.toNat + phaseIncrement c r) % phaseMod := by
  have fits : (r.phase.toNat + phaseIncrement c r) % phaseMod < 2 ^ 32 :=
    (Nat.mod_lt _ (by decide)).trans (by decide)
  rw [nextPhase, BitVec.toNat_ofNat, Nat.mod_eq_of_lt fits]

/-- Settles O47: `PHASE_MOD` is a multiple of `2^27`. -/
theorem phaseKeepsItsRemainder : Obligations.PhaseKeepsItsRemainder := by
  intro c r _
  refine ⟨?wholeTables, ?fraction, Nat.mod_eq_of_lt (nextPhase_lt c r)⟩
  case wholeTables => rw [nextPhase_toNat, Nat.mod_add_div']
  case fraction => rw [nextPhase_toNat, Nat.mod_mod_of_dvd _ (show 2 ^ 27 ∣ phaseMod by decide)]

end Sys2Proof.Machine
end

section
/-! The operation TICK (40_dds_engine.md R111) and the engine's part of a cycle: which ticks sample (R101), and what a
cycle with a sample and one without leave. -/

namespace Sys2Proof.Machine

open Sys2Proof Sys2Proof.Config Sys2Proof.Safety

/-! ## Which ticks sample -/

theorem sampleNow_iff (c : Params) (r : Regs) (tick : Bool) :
    sampleNow c r tick = true ↔ tick = true ∧ (c.cadence = .one ∨ r.tdiv = false) := by
  unfold sampleNow
  cases c.cadence <;> simp

theorem sampleNow_eq_false_iff (c : Params) (r : Regs) (tick : Bool) :
    sampleNow c r tick = false ↔ tick = false ∨ (c.cadence = .two ∧ r.tdiv = true) := by
  unfold sampleNow
  cases c.cadence <;> cases tick <;> simp

/-! ## TICK -/

theorem exec_tick (s : State) : exec .tick s = .next (ddsEffect true s) := by
  rfl

/-- Settles O38: `ddsEffect` writes the sample's elements, each read in integers by the lemma of its step. -/
theorem tickProducesASample : Obligations.TickProducesASample := by
  rintro s ⟨-, ⟨lo, -⟩, wave, -, phase, -⟩ samples
  have now : sampleNow s.cfg s.start true = true := (sampleNow_iff ..).mpr ⟨rfl, samples⟩
  have index : s.start.phase.toNat / 2 ^ 27 < 20 := by
    unfold phaseMod at phase
    omega
  obtain ⟨w, w_val⟩ : ∃ w : Fin 3, w.val = s.start.waveform.toNat := ⟨⟨_, Nat.lt_succ_of_le wave⟩, rfl⟩
  obtain ⟨k, k_val⟩ : ∃ k : Fin 20, k.val = s.start.phase.toNat / 2 ^ 27 := ⟨⟨_, index⟩, rfl⟩
  refine ⟨noteIndex s.start.note, w, k, sampleCode s.cfg s.start, nextPhase s.cfg s.start, noteIndex_val _, w_val,
    k_val, ?code, ?phase, ?effect⟩
  case code => rw [sampleCode, outputCode_toNat, scale, lookup_of_lt s.cfg w_val k_val]
  case phase =>
    rw [nextPhase_toNat, phaseIncrement_of_octave_ge _ lo]
    rfl
  case effect =>
    rw [exec_tick, ddsEffect_spec, now]
    cases cadence : s.cfg.cadence with
    | one => rfl
    | two =>
      obtain one | tdiv := samples
      · exact absurd (one.symm.trans cadence) nofun
      · rw [tdiv]
        rfl

/-- Settles O39: no sample is taken, so `ddsEffect` writes TDIV and LOAD alone. -/
theorem tickWithoutASample : Obligations.TickWithoutASample := by
  intro s cadence tdiv
  have now : sampleNow s.cfg s.start true = false := (sampleNow_eq_false_iff ..).mpr (.inr ⟨cadence, tdiv⟩)
  rw [exec_tick, ddsEffect_spec, now, cadence, tdiv]
  rfl

/-! ## The engine's elements after a cycle -/

section CycleWithoutReset

variable (c : Params) (r : Regs) {p : Ports} (rst : p.rst = false)
include rst

theorem cycleRegs_phase :
    (cycleRegs c r p).phase = if sampleNow c r p.tick then nextPhase c r else r.phase := by
  rw [cycleRegs_of_not_rst c r rst]

theorem cycleRegs_outCode :
    (cycleRegs c r p).outCode = if sampleNow c r p.tick then sampleCode c r else r.outCode := by
  rw [cycleRegs_of_not_rst c r rst]

theorem cycleRegs_load : (cycleRegs c r p).load = sampleNow c r p.tick := by
  rw [cycleRegs_of_not_rst c r rst]

theorem cycleRegs_tdiv :
    (cycleRegs c r p).tdiv = if p.tick && c.cadence == .two then !r.tdiv else r.tdiv := by
  rw [cycleRegs_of_not_rst c r rst]

end CycleWithoutReset

/-- Settles O40: all that a cycle changes of the engine besides TDIV is conditional on `sample_now`. -/
theorem noSampleLeavesPhaseAndCode : Obligations.NoSampleLeavesPhaseAndCode := by
  intro s p rst noSample
  have now : sampleNow s.cfg s.regs p.tick = false := (sampleNow_eq_false_iff ..).mpr noSample
  refine ⟨_, step_eq_afterCycle _, ?_⟩
  rw [afterCycle_pushPorts_regs, cycleRegs_phase _ _ rst, cycleRegs_outCode _ _ rst, cycleRegs_load _ _ rst,
    cycleRegs_tdiv _ _ rst, now]
  exact ⟨rfl, rfl, rfl, fun tick => by rw [tick]; rfl⟩

/-- Settles O46: at volume 0 the scaled sample is 0, and the phase does not look at the volume. -/
theorem volumeZeroGivesMidScale : Obligations.VolumeZeroGivesMidScale := by
  intro s p rst tick samples mute
  have now : sampleNow s.cfg s.regs p.tick = true := (sampleNow_iff ..).mpr ⟨tick, samples⟩
  refine ⟨_, step_eq_afterCycle _, ?_⟩
  rw [afterCycle_pushPorts_regs, cycleRegs_phase _ _ rst, cycleRegs_outCode _ _ rst, cycleRegs_load _ _ rst, now]
  exact ⟨sampleCode_of_volume_zero _ mute, rfl, nextPhase_toNat ..⟩

end Sys2Proof.Machine
end

section
/-! Runs of cycles: `n` cycles are `afterCycle` iterated, each taking one of the inputs to come; and the cadence divider
over a run (40_dds_engine.md R101, 70_reset_and_hazards.md R237). -/

namespace Sys2Proof.Machine

open Sys2Proof Sys2Proof.Config Sys2Proof.Safety

/-! ## A run is an iteration -/

theorem runs_iff (n : Nat) (s t : State) : Runs n s t ↔ afterCycle^[n] s = t := by
  induction n generalizing s with
  | zero => simp [Runs, Host.Core.run]
  | succ n ih =>
    rw [Function.iterate_succ_apply, ← ih]
    simp only [Runs, Host.Core.run, step_eq_afterCycle]

theorem iterate_afterCycle_cfg (n : Nat) (s : State) : (afterCycle^[n] s).cfg = s.cfg := by
  induction n with
  | zero => rfl
  | succ n ih => rw [Function.iterate_succ_apply', ← ih, afterCycle]

theorem iterate_afterCycle_inputs (n : Nat) (s : State) : (afterCycle^[n] s).inputs = s.inputs.drop n := by
  induction n with
  | zero => rfl
  | succ n ih => rw [Function.iterate_succ_apply', afterCycle, ih, List.tail_drop]

theorem iterate_afterCycle_nextPorts {n : Nat} {s : State} (more : n < s.inputs.length) :
    (afterCycle^[n] s).nextPorts = s.inputs[n] := by
  rw [State.nextPorts, iterate_afterCycle_inputs, List.drop_eq_getElem_cons more]

/-- The elements after one cycle more of a run. -/
theorem iterate_afterCycle_succ_regs {n : Nat} {s : State} (more : n < s.inputs.length) :
    (afterCycle^[n + 1] s).regs = cycleRegs s.cfg (afterCycle^[n] s).regs s.inputs[n] := by
  rw [Function.iterate_succ_apply', afterCycle, iterate_afterCycle_cfg, iterate_afterCycle_nextPorts more]

theorem take_succ_inputs {n : Nat} {s : State} (more : n < s.inputs.length) :
    s.inputs.take (n + 1) = s.inputs.take n ++ [s.inputs[n]] := by
  rw [List.take_append_getElem]

/-! ## The divider over a run -/

theorem ticksIn_succ {n : Nat} {s : State} (more : n < s.inputs.length) :
    ticksIn (n + 1) s = ticksIn n s + (s.inputs[n].tick).toNat := by
  rw [ticksIn, take_succ_inputs more, List.countP_append, List.countP_singleton]
  cases s.inputs[n].tick <;> rfl

theorem tdiv_iff_ticksIn_odd {s : State} (cadence : s.cfg.cadence = .two) (tdiv : s.regs.tdiv = false) {n : Nat}
    (enough : n ≤ s.inputs.length) (noReset : ∀ p ∈ s.inputs.take n, p.rst = false) :
    (afterCycle^[n] s).regs.tdiv = true ↔ ticksIn n s % 2 = 1 := by
  induction n with
  | zero => simp [tdiv, ticksIn]
  | succ n ih =>
    rw [take_succ_inputs enough, List.forall_mem_append, List.forall_mem_singleton] at noReset
    obtain ⟨earlier, rst⟩ := noReset
    have before := ih (Nat.le_of_succ_le enough) earlier
    rw [iterate_afterCycle_succ_regs enough, cycleRegs_tdiv _ _ rst, ticksIn_succ enough, cadence]
    cases s.inputs[n].tick with
    | false => exact before
    | true =>
      have toggled : (!(afterCycle^[n] s).regs.tdiv) = true ↔ ¬ ticksIn n s % 2 = 1 := by
        rw [← before, Bool.not_eq_true', Bool.not_eq_true]
      refine toggled.trans ?_
      rw [Bool.toNat_true]
      omega

/-- The last of `n + 1` cycles samples exactly if it has a tick whose number is odd. -/
theorem load_iff_odd_tick {s : State} (cadence : s.cfg.cadence = .two) (tdiv : s.regs.tdiv = false) {n : Nat}
    (more : n < s.inputs.length) (noReset : ∀ p ∈ s.inputs.take (n + 1), p.rst = false) :
    (afterCycle^[n + 1] s).regs.load = true ↔ s.inputs[n].tick = true ∧ ticksIn (n + 1) s % 2 = 1 := by
  rw [take_succ_inputs more, List.forall_mem_append, List.forall_mem_singleton] at noReset
  obtain ⟨earlier, rst⟩ := noReset
  have before := tdiv_iff_ticksIn_odd cadence tdiv more.le earlier
  rw [iterate_afterCycle_succ_regs more, cycleRegs_load _ _ rst, sampleNow_iff, ← Bool.not_eq_true, before,
    ticksIn_succ more, cadence]
  refine and_congr_right fun tick => ?_
  rw [tick, Bool.toNat_true]
  simp only [reduceCtorEq, false_or]
  omega

/-- Settles O41: after any run TDIV is the parity of the ticks so far, and a tick samples where it was even before. -/
theorem everyOtherTickSamples : Obligations.EveryOtherTickSamples := by
  intro s t n cadence tdiv enough noReset runs
  obtain rfl := (runs_iff ..).mp runs
  refine ⟨tdiv_iff_ticksIn_odd cadence tdiv enough noReset, fun p last => ?_⟩
  cases n with
  | zero => exact absurd last nofun
  | succ n =>
    rw [take_succ_inputs enough, List.getLast?_concat] at last
    obtain rfl := Option.some.inj last
    exact load_iff_odd_tick cadence tdiv enough noReset

end Sys2Proof.Machine
end

section
/-! The buttons in a cycle (41_input_bridge.md R130 to R139): a button's own elements, and what a confirmation and a
rejection do to the rest of the state. -/

namespace Sys2Proof.Machine

open Sys2Proof Sys2Proof.Config Sys2Proof.Safety

/-! ## A button's own elements -/

/-- Settles O50: the button's elements after the cycle are `nextButton` of those before it. -/
theorem buttonLogicRunsEveryCycle : Obligations.ButtonLogicRunsEveryCycle := by
  intro s p b rst
  refine ⟨_, step_eq_afterCycle _, ?_⟩
  rw [afterCycle_pushPorts_regs, cycleRegs_btn _ _ rst, Rule50.button]
  exact ⟨rfl, rfl, rfl, debounceTransition_nextButton ..⟩

/-- Settles O51: the latch of `nextButton`, its edge being the synchronized fall. -/
theorem edgeLatchRemembersUntilTaken : Obligations.EdgeLatchRemembersUntilTaken := by
  intro s p b rst
  refine ⟨_, step_eq_afterCycle _, ?_⟩
  rw [afterCycle_pushPorts_regs, cycleRegs_btn _ _ rst, Rule50.button, nextButton_edgeLatch, fall_iff]

/-! ## A button against the rest of the state -/

/-- A button's elements reach no element but its own and, through its mask, FLAGS. -/
theorem cycleRegs_setBtn (c : Params) (r : Regs) {p : Ports} (rst : p.rst = false) (b : Button) (v : ButtonRegs) :
    cycleRegs c (r.setBtn b v) p =
      { (cycleRegs c r p).setBtn b (nextButton c.debounceCycles v.fall (p.btn b) v) with
        flags := mergeFlags r.flags (cycleMasks c (r.setBtn b v) p) } := by
  rw [cycleRegs_of_not_rst c _ rst, cycleRegs_of_not_rst c r rst]
  cases b <;> rfl

theorem bset_of_not_confirms {s : State} {b : Button} (h : ¬ Confirms b s) : Rule50.bset s.cfg s.regs b = 0 :=
  if_neg (mt (debounce_confirm_iff ..).mp h)

/-- Elements that do not confirm make the same masks as any others that do not. -/
theorem cycleMasks_setBtn {s : State} {b : Button} {v : ButtonRegs} (before : ¬ Confirms b s)
    (after : ¬ Confirms b (s.updRegs fun r => r.setBtn b v)) (p : Ports) :
    cycleMasks s.cfg (s.regs.setBtn b v) p = cycleMasks s.cfg s.regs p := by
  have same := (bset_of_not_confirms after).trans (bset_of_not_confirms before).symm
  rw [updRegs_cfg, updRegs_regs] at same
  cases b <;> rw [cycleMasks, same] <;> rfl

/-- A confirmation leaves its flags set, whatever the host clears (41_input_bridge.md R138). -/
theorem cycleRegs_flags_of_confirms {s : State} {p : Ports} (rst : p.rst = false) {b : Button} (confirms : Confirms b s)
    (i : Fin 5) (own : i.val = b.index ∨ i.val = 4) : (cycleRegs s.cfg s.regs p).flags.getLsbD i = true := by
  have mask := (bset_getLsbD s b i).mpr ⟨confirms, own⟩
  cases b <;> simp [cycleRegs_flags _ _ rst, mergeFlags_getLsbD, cycleMasks, mask]

/-- Settles O52: the button's mask holds its flags, and no parameter looks at a button. -/
theorem confirmationSetsItsFlags : Obligations.ConfirmationSetsItsFlags := by
  intro s p b rst confirms
  have index_lt : b.index < 5 := by cases b <;> decide
  refine ⟨_, step_eq_afterCycle _, cycleRegs_flags_of_confirms rst confirms ⟨b.index, index_lt⟩ (.inl rfl),
    cycleRegs_flags_of_confirms rst confirms 4 (.inr rfl), ?latch, ?noWrite, fun v => ⟨_, step_eq_afterCycle _, ?_⟩⟩
  case latch =>
    rw [afterCycle_pushPorts_regs, cycleRegs_btn _ _ rst, Rule50.button, nextButton_edgeLatch, fall_iff]
    rintro (⟨falls, -⟩ | ⟨-, -, not_confirms⟩)
    · exact falls
    · exact absurd confirms not_confirms
  case noWrite =>
    intro no_write
    rw [afterCycle_pushPorts_regs, cycleRegs_of_not_rst _ _ rst, hostRegs_of_not_write no_write]
    exact ⟨rfl, rfl, rfl, rfl, rfl⟩
  · rw [afterCycle_pushPorts_regs, afterCycle_pushPorts_regs, updRegs_cfg, updRegs_regs, cycleRegs_setBtn _ _ rst]
    simp

/-- The flag of a button that does not confirm is not set (10_state.md R36). -/
theorem cycleRegs_flags_of_not_confirms {s : State} {p : Ports} (rst : p.rst = false) {b : Button}
    (not_confirms : ¬ Confirms b s) (set : (cycleRegs s.cfg s.regs p).flags.getLsbD b.index = true) :
    s.regs.flags.getLsbD b.index = true := by
  have index_lt : b.index < 5 := by cases b <;> decide
  obtain ⟨t, stepped, sources⟩ := flagsChangeOnlyByTheirSources s p ⟨b.index, index_lt⟩ rst
  rw [step_eq_afterCycle] at stepped
  obtain rfl := Host.Outcome.next.inj stepped
  obtain ⟨kept, -⟩ | source := sources.mp set
  · exact kept
  · cases b <;> simp [Button.index, not_confirms] at source

/-- Settles O53: a rejection makes no mask and does not take the latch, and nothing else of a button reaches the rest of
the state. -/
theorem rejectionHasNoSideEffect : Obligations.RejectionHasNoSideEffect := by
  intro s p b rst checking expired released
  have not_confirms : ¬ Confirms b s := by
    rintro ⟨-, -, asserted⟩
    exact absurd (released.symm.trans asserted) nofun
  obtain ⟨-, -, -, -, -, rejects⟩ :=
    debounceTransition_nextButton s.cfg.debounceCycles (s.regs.btn b).fall (p.btn b) (s.regs.btn b)
  obtain ⟨idle, stopped⟩ := rejects checking expired released
  refine ⟨_, step_eq_afterCycle _, ?_⟩
  rw [afterCycle_pushPorts_regs, cycleRegs_btn _ _ rst, Rule50.button]
  refine ⟨idle, stopped, ?latch, cycleRegs_flags_of_not_confirms rst not_confirms,
    fun v after => ⟨_, step_eq_afterCycle _, ?others⟩⟩
  case latch =>
    rw [Bool.eq_iff_iff, nextButton_edgeLatch, fall_iff]
    simp [checking, released]
  case others =>
    rw [afterCycle_pushPorts_regs, updRegs_cfg, updRegs_regs, cycleRegs_setBtn _ _ rst,
      cycleMasks_setBtn not_confirms after, ← cycleRegs_flags _ _ rst, ← Rule50.button, ← cycleRegs_btn _ _ rst]
    cases b <;> rfl

end Sys2Proof.Machine
end

section
/-! A press (41_input_bridge.md R147 to R149, 70_reset_and_hazards.md R233): a released button whose line falls, stays
low for `k` cycles and is high from then on. `PressedFor` says where its elements stand after `n` cycles: the
synchronizer delays the line, the edge is latched at 3, the first countdown ends at `D + 3` and the second at
`2D + 3`. -/

namespace Sys2Proof.Machine

open Sys2Proof Sys2Proof.Config Sys2Proof.Safety

/-! ## The elements of a pressed button -/

/-- The times at which the first countdown of a press runs. -/
abbrev FirstCheckAt (d k n : Nat) : Prop := 4 ≤ n ∧ n ≤ d + 3 ∧ 0 < k

/-- The times at which the second countdown runs: the press lasted to the first re-check. -/
abbrev SecondCheckAt (d k n : Nat) : Prop := d + 4 ≤ n ∧ n ≤ 2 * d + 3 ∧ d + 2 ≤ k

/-- The debounce machine of a pressed button after `n` cycles. -/
def DebouncesAt (d k n : Nat) (v : ButtonRegs) : Prop :=
  match v.dbState with
  | .idle => ¬ FirstCheckAt d k n ∧ ¬ SecondCheckAt d k n
  | .check1 => FirstCheckAt d k n ∧ v.dbCnt.toNat + n = d + 3
  | .check2 => SecondCheckAt d k n ∧ v.dbCnt.toNat + n = 2 * d + 3

section Transition

variable {d k n : Nat} {v : ButtonRegs}

theorem debouncesAt_of_idle (state : v.dbState = .idle) :
    DebouncesAt d k n v ↔ ¬ FirstCheckAt d k n ∧ ¬ SecondCheckAt d k n := by
  rw [DebouncesAt, state]

theorem debouncesAt_of_check1 (state : v.dbState = .check1) :
    DebouncesAt d k n v ↔ FirstCheckAt d k n ∧ v.dbCnt.toNat + n = d + 3 := by
  rw [DebouncesAt, state]

theorem debouncesAt_of_check2 (state : v.dbState = .check2) :
    DebouncesAt d k n v ↔ SecondCheckAt d k n ∧ v.dbCnt.toNat + n = 2 * d + 3 := by
  rw [DebouncesAt, state]

/-- A running countdown goes on. -/
theorem DebouncesAt.count {w : ButtonRegs} (now : DebouncesAt d k n v) (busy : v.dbState ≠ .idle)
    (running : v.dbCnt ≠ 0) (counts : w.dbState = v.dbState ∧ w.dbCnt = v.dbCnt - 1) : DebouncesAt d k (n + 1) w := by
  obtain ⟨same, less⟩ := counts
  have down : w.dbCnt.toNat + 1 = v.dbCnt.toNat := by
    rw [less]
    bv_omega
  cases state : v.dbState with
  | idle => exact absurd state busy
  | check1 =>
    rw [debouncesAt_of_check1 state] at now
    rw [debouncesAt_of_check1 (same.trans state)]
    omega
  | check2 =>
    rw [debouncesAt_of_check2 state] at now
    rw [debouncesAt_of_check2 (same.trans state)]
    omega

end Transition

/-- The elements `v` of a button `n` cycles after its line fell, the line being low in the first `k` cycles, `D = d`. -/
structure PressedFor (d k n : Nat) (v : ButtonRegs) : Prop where
  bs1 : v.bs1 = false ↔ 1 ≤ n ∧ n < k + 1
  bs2 : v.bs2 = false ↔ 2 ≤ n ∧ n < k + 2
  bs3 : v.bs3 = false ↔ 3 ≤ n ∧ n < k + 3
  edgeLatch : v.edgeLatch = true ↔ n = 3 ∧ 0 < k
  machine : DebouncesAt d k n v

theorem pressedFor_reset (d k : Nat) : PressedFor d k 0 ButtonRegs.reset := by
  constructor <;> simp [ButtonRegs.reset, DebouncesAt]

namespace PressedFor

variable {k n : Nat} {v : ButtonRegs}

theorem fall_iff {d : Nat} (pressed : PressedFor d k n v) : v.fall = true ↔ n = 2 ∧ 0 < k := by
  rw [Machine.fall_iff, pressed.bs2, ← Bool.not_eq_false, pressed.bs3]
  omega

/-- The second countdown expires at `2D + 3` alone, and the line is asserted there if the press has lasted. -/
theorem confirms_iff {d : Nat} (pos : 0 < d) (pressed : PressedFor d k n v) :
    (v.dbState = .check2 ∧ v.dbCnt = 0 ∧ v.bs2 = false) ↔ n = 2 * d + 3 ∧ 2 * d + 2 ≤ k := by
  have machine := pressed.machine
  have expired_iff : v.dbCnt = 0 ↔ v.dbCnt.toNat = 0 := by bv_omega
  rw [pressed.bs2, expired_iff]
  cases state : v.dbState with
  | idle =>
    rw [debouncesAt_of_idle state] at machine
    simp only [reduceCtorEq, false_and, false_iff]
    omega
  | check1 =>
    rw [debouncesAt_of_check1 state] at machine
    simp only [reduceCtorEq, false_and, false_iff]
    omega
  | check2 =>
    rw [debouncesAt_of_check2 state] at machine
    simp only [true_and]
    omega

/-- One transition of the machine: the line decides at each re-check (41_input_bridge.md R135 to R137). -/
theorem debouncesAt_succ {d : BitVec 16} (legal : d ≠ 0) (pressed : PressedFor d.toNat k n v) (fall raw : Bool) :
    DebouncesAt d.toNat k (n + 1) (nextButton d fall raw v) := by
  have restart : (d - 1).toNat + 1 = d.toNat := by bv_omega
  have expired_count (expired : v.dbCnt = 0) : v.dbCnt.toNat = 0 := by bv_omega
  have asserted := pressed.bs2
  have latched := pressed.edgeLatch
  have machine := pressed.machine
  obtain ⟨start, wait, count, passFirst, passSecond, reject⟩ := debounceTransition_nextButton d fall raw v
  by_cases running : v.dbState ≠ .idle ∧ v.dbCnt ≠ 0
  · obtain ⟨busy, counting⟩ := running
    exact machine.count busy counting (count busy counting)
  cases state : v.dbState with
  | idle =>
    rw [debouncesAt_of_idle state] at machine
    cases latch : v.edgeLatch with
    | false =>
      obtain ⟨idle, -⟩ := wait state latch
      rw [debouncesAt_of_idle idle]
      simp only [latch, Bool.false_eq_true, false_iff] at latched
      omega
    | true =>
      obtain ⟨check1, restarted⟩ := start state latch
      rw [debouncesAt_of_check1 check1, restarted]
      have at_three := latched.mp latch
      omega
  | check1 =>
    have busy : v.dbState ≠ .idle := by simp [state]
    have expired : v.dbCnt = 0 := not_not.mp fun counting => running ⟨busy, counting⟩
    rw [debouncesAt_of_check1 state, expired_count expired] at machine
    cases level : v.bs2 with
    | false =>
      obtain ⟨check2, restarted⟩ := passFirst state expired level
      rw [debouncesAt_of_check2 check2, restarted]
      have in_press := asserted.mp level
      omega
    | true =>
      obtain ⟨idle, -⟩ := reject busy expired level
      rw [debouncesAt_of_idle idle]
      simp only [level, Bool.true_eq_false, false_iff] at asserted
      omega
  | check2 =>
    have busy : v.dbState ≠ .idle := by simp [state]
    have expired : v.dbCnt = 0 := not_not.mp fun counting => running ⟨busy, counting⟩
    have idle : (nextButton d fall raw v).dbState = .idle := by
      cases level : v.bs2 with
      | false => exact (passSecond state expired level).1
      | true => exact (reject busy expired level).1
    rw [debouncesAt_of_check2 state, expired_count expired] at machine
    rw [debouncesAt_of_idle idle]
    omega

theorem succ {d : BitVec 16} (legal : d ≠ 0) (pressed : PressedFor d.toNat k n v) {raw : Bool}
    (line : raw = false ↔ n < k) : PressedFor d.toNat k (n + 1) (nextButton d v.fall raw v) where
  bs1 := line.trans (by omega)
  bs2 := pressed.bs1.trans (by omega)
  bs3 := pressed.bs2.trans (by omega)
  edgeLatch := by
    have machine := pressed.machine
    have taken_at_three (at_three : n = 3) : v.dbState = .idle := by
      cases state : v.dbState with
      | idle => rfl
      | check1 =>
        rw [debouncesAt_of_check1 state] at machine
        omega
      | check2 =>
        rw [debouncesAt_of_check2 state] at machine
        omega
    rw [nextButton_edgeLatch, pressed.fall_iff, pressed.edgeLatch]
    constructor
    · rintro (falls | ⟨⟨at_three, -⟩, busy, -⟩)
      · omega
      · exact absurd (taken_at_three at_three) busy
    · omega
  machine := pressed.debouncesAt_succ legal _ _

end PressedFor

/-! ## A press over a run -/

theorem pressedFor_iterate_afterCycle {s : State} {b : Button} (legal : s.cfg.debounceCycles ≠ 0)
    (released : s.regs.btn b = ButtonRegs.reset) {k n : Nat} (enough : n ≤ s.inputs.length)
    (press : ∀ (j : Nat) (h : j < s.inputs.length),
      (s.inputs[j]).rst = false ∧ ((s.inputs[j]).btn b = false ↔ j < k)) :
    PressedFor s.cfg.debounceCycles.toNat k n ((afterCycle^[n] s).regs.btn b) := by
  induction n with
  | zero =>
    rw [Function.iterate_zero_apply, released]
    exact pressedFor_reset ..
  | succ n ih =>
    obtain ⟨rst, line⟩ := press n enough
    rw [iterate_afterCycle_succ_regs enough, cycleRegs_btn _ _ rst]
    exact (ih (Nat.le_of_succ_le enough)).succ legal line

/-- Settles O55: the elements of the pressed button are known after every number of cycles. -/
theorem pressIsConfirmedOnceIfLongEnough : Obligations.PressIsConfirmedOnceIfLongEnough := by
  rintro s t b k n ⟨-, legal, -⟩ released enough press runs
  obtain rfl := (runs_iff ..).mp runs
  exact (pressedFor_iterate_afterCycle legal released enough press).confirms_iff (by bv_omega)

end Sys2Proof.Machine
end

section
/-! The sensor unit (41_input_bridge.md section 3): its two operations (R143, R144), its elements after a cycle, and the
poll counter over a run. -/

namespace Sys2Proof.Machine

open Sys2Proof Sys2Proof.Config Sys2Proof.Safety

/-! ## SRDY_EDGE and POLL_TICK -/

theorem exec_srdyEdge (s : State) :
    exec .srdyEdge s = .next ((s.shiftSensor.writePollCnt 0).setSset sensorFlags) := by
  rfl

theorem exec_pollTick (s : State) : exec .pollTick s = .next s.shiftSensor.pollStep := by
  rfl

theorem sensorReadyFlags_mergeFlags (g : BitVec 5) (m : Masks) :
    SensorReadyFlags g m (mergeFlags g { m with sset := sensorFlags }) := by
  intro i
  rw [mergeFlags_getLsbD]
  simp only [Bool.or_eq_true, Bool.and_eq_true, Bool.not_eq_true', sensorFlags_getLsbD, or_assoc, Fin.ext_iff,
    Fin.isValue, Fin.coe_ofNat_eq_mod, Nat.reduceMod]

/-- Settles O56: the merge with the sensor's mask is what the operation writes to FLAGS. -/
theorem sensorEdgeOperation : Obligations.SensorEdgeOperation := by
  intro s
  exact ⟨_, sensorReadyFlags_mergeFlags _ _, exec_srdyEdge s⟩

/-- Settles O57: the mask is made, and FLAGS merged, at the period alone. -/
theorem pollTickOperation : Obligations.PollTickOperation := by
  intro s
  refine ⟨_, sensorReadyFlags_mergeFlags _ _, ?_⟩
  rw [exec_pollTick, pollStep_spec]
  rfl

/-! ## The sensor unit's elements after a cycle -/

section CycleWithoutReset

variable (c : Params) (r : Regs) {p : Ports} (rst : p.rst = false)
include rst

theorem cycleRegs_pollCnt : (cycleRegs c r p).pollCnt = Rule50.pollCnt c r p := by
  rw [cycleRegs_of_not_rst c r rst]

theorem cycleRegs_rs :
    (cycleRegs c r p).rs1 = p.srdy ∧ (cycleRegs c r p).rs2 = r.rs1 ∧ (cycleRegs c r p).rs3 = r.rs2 := by
  rw [cycleRegs_of_not_rst c r rst]
  exact ⟨rfl, rfl, rfl⟩

theorem cycleRegs_srdySrc_of_not_writes (no_write : ¬ WritesTo p 0x0) : (cycleRegs c r p).srdySrc = r.srdySrc := by
  rw [cycleRegs_of_not_rst c r rst]
  exact if_neg (mt (writes_iff p 0x0).mp no_write)

end CycleWithoutReset

/-- Settles O58: the counter is `Rule50.pollCnt`, whose branches are the mode and the tick. -/
theorem sensorUnitAfterACycle : Obligations.SensorUnitAfterACycle := by
  intro s p rst
  refine ⟨_, step_eq_afterCycle _, ?_⟩
  rw [afterCycle_pushPorts_regs]
  obtain ⟨rs1, rs2, rs3⟩ := cycleRegs_rs s.cfg s.regs rst
  refine ⟨rs1, rs2, rs3, ?edge, ?noTick, ?tick⟩ <;> rw [cycleRegs_pollCnt _ _ rst, Rule50.pollCnt]
  case edge =>
    intro edge
    rw [edge]
    rfl
  case noTick =>
    intro poll noTick
    rw [poll, noTick]
    rfl
  case tick =>
    intro poll tick
    rw [poll, tick]
    rfl

/-! ## The poll counter over a run -/

theorem pollCnt_succ_eq_period_iff {c : Params} {r : Regs} (lt : r.pollCnt.toNat < c.pollPeriod.toNat) :
    r.pollCnt + 1 = c.pollPeriod ↔ (r.pollCnt.toNat + 1) % c.pollPeriod.toNat = 0 := by
  constructor
  · intro wraps
    have last : r.pollCnt.toNat + 1 = c.pollPeriod.toNat := by bv_omega
    rw [last, Nat.mod_self]
  · intro multiple
    have le := Nat.le_of_dvd (Nat.succ_pos _) (Nat.dvd_of_mod_eq_zero multiple)
    bv_omega

/-- In poll mode the counter counts ticks modulo the period (41_input_bridge.md R144). -/
theorem pollCnt_toNat_of_poll {c : Params} {r : Regs} (poll : r.srdySrc = true)
    (lt : r.pollCnt.toNat < c.pollPeriod.toNat) (p : Ports) :
    (Rule50.pollCnt c r p).toNat = (r.pollCnt.toNat + p.tick.toNat) % c.pollPeriod.toNat := by
  rw [Rule50.pollCnt, if_pos poll]
  cases p.tick with
  | false => exact (Nat.mod_eq_of_lt lt).symm
  | true =>
    rw [if_pos rfl, Bool.toNat_true]
    split
    next wraps => exact ((pollCnt_succ_eq_period_iff lt).mp wraps).symm
    next counts =>
      have next_lt : r.pollCnt.toNat + 1 < c.pollPeriod.toNat := by bv_omega
      rw [Nat.mod_eq_of_lt next_lt]
      bv_omega

/-- A sensor-ready source leaves its two flags set, whatever the host clears (41_input_bridge.md R144). -/
theorem cycleRegs_flags_of_sensorSets {s : State} {p : Ports} (rst : p.rst = false) (sets : SensorSets s p) (i : Fin 5)
    (own : i.val = 3 ∨ i.val = 4) : (cycleRegs s.cfg s.regs p).flags.getLsbD i = true := by
  have mask : (cycleMasks s.cfg s.regs p).sset.getLsbD i = true := (sset_getLsbD s p i).mpr ⟨sets, own⟩
  simp [cycleRegs_flags _ _ rst, mergeFlags_getLsbD, mask]

theorem poll_iterate_afterCycle {s : State} (period : s.cfg.pollPeriod ≠ 0) (poll : s.regs.srdySrc = true)
    (start : s.regs.pollCnt = 0) {n : Nat} (enough : n ≤ s.inputs.length)
    (undisturbed : ∀ p ∈ s.inputs.take n, p.rst = false ∧ ¬ WritesTo p 0x0) :
    (afterCycle^[n] s).regs.srdySrc = true ∧
      (afterCycle^[n] s).regs.pollCnt.toNat = ticksIn n s % s.cfg.pollPeriod.toNat := by
  have pos : 0 < s.cfg.pollPeriod.toNat := by bv_omega
  induction n with
  | zero => simp [poll, start, ticksIn]
  | succ n ih =>
    rw [take_succ_inputs enough, List.forall_mem_append, List.forall_mem_singleton] at undisturbed
    obtain ⟨earlier, rst, no_write⟩ := undisturbed
    obtain ⟨still_poll, count⟩ := ih (Nat.le_of_succ_le enough) earlier
    have lt : (afterCycle^[n] s).regs.pollCnt.toNat < s.cfg.pollPeriod.toNat := count ▸ Nat.mod_lt _ pos
    rw [iterate_afterCycle_succ_regs enough]
    refine ⟨(cycleRegs_srdySrc_of_not_writes _ _ rst no_write).trans still_poll, ?_⟩
    rw [cycleRegs_pollCnt _ _ rst, pollCnt_toNat_of_poll still_poll lt, count, ticksIn_succ enough, Nat.mod_add_mod]

/-- Settles O59: after any run the counter is the number of ticks modulo the period, so the tick that makes it a
multiple finds the counter one below the period. -/
theorem everyPeriodOfTicksSetsSensorReady : Obligations.EveryPeriodOfTicksSetsSensorReady := by
  rintro s t n ⟨period, -⟩ poll start enough undisturbed runs
  obtain rfl := (runs_iff ..).mp runs
  refine ⟨(poll_iterate_afterCycle period poll start enough undisturbed).2, fun p last tick multiple => ?_⟩
  cases n with
  | zero => exact absurd last nofun
  | succ n =>
    rw [take_succ_inputs enough, List.forall_mem_append, List.forall_mem_singleton] at undisturbed
    obtain ⟨earlier, rst, -⟩ := undisturbed
    rw [take_succ_inputs enough, List.getLast?_concat] at last
    obtain rfl := Option.some.inj last
    obtain ⟨still_poll, count⟩ := poll_iterate_afterCycle period poll start (Nat.le_of_succ_le enough) earlier
    have lt : (afterCycle^[n] s).regs.pollCnt.toNat < (afterCycle^[n] s).cfg.pollPeriod.toNat := by
      rw [count, iterate_afterCycle_cfg]
      exact Nat.mod_lt _ (by bv_omega)
    have wraps : (afterCycle^[n] s).regs.pollCnt + 1 = (afterCycle^[n] s).cfg.pollPeriod := by
      rw [pollCnt_succ_eq_period_iff lt, count, iterate_afterCycle_cfg, Nat.mod_add_mod]
      rwa [ticksIn_succ enough, tick, Bool.toNat_true] at multiple
    have sets : SensorSets (afterCycle^[n] s) s.inputs[n] := by
      rw [SensorSets, if_pos still_poll]
      exact ⟨tick, wraps⟩
    have flags := cycleRegs_flags_of_sensorSets rst sets
    rw [iterate_afterCycle_cfg, ← iterate_afterCycle_succ_regs enough] at flags
    exact ⟨flags 3 (.inl rfl), flags 4 (.inr rfl)⟩

end Sys2Proof.Machine
end

section
/-! The host's transactions from any state (42_host_interface.md): the row a word decodes to, the data a read returns,
the value a write stores, and the masks of the writes of FLAGS and FLAGS_SET. -/

namespace Sys2Proof.Machine

open Sys2Proof Sys2Proof.Config Sys2Proof.Safety

/-! ## The row of an address, whatever the data -/

/-- A read's DATA is ignored (30_encoding.md R82). -/
theorem decode_hostWord_read (a : RegAddr) (d : Word) :
    decode (.host37 (hostWord false a d)) = .ok (decodeRead a) := by
  rw [decode, decodeHost_hostWord]
  rfl

/-- The read-only and the reserved addresses take no write (20_memory.md R66). -/
theorem exec_decodeWrite_of_no_effect {a : RegAddr} (above : 0x8 ≤ a.toNat) (d : Word) (s : State) :
    exec (decodeWrite a d) s = .next (s.driveRdata 0) := by
  obtain ⟨⟨n, lt⟩⟩ := a
  change 8 ≤ n at above
  simp only [Nat.reducePow] at lt
  interval_cases n <;> rfl

theorem hostRead_of_reserved {a : RegAddr} (reserved : 0xB ≤ a.toNat) (r : Regs) : hostRead a r = 0 := by
  obtain ⟨⟨n, lt⟩⟩ := a
  change 11 ≤ n at reserved
  simp only [Nat.reducePow] at lt
  interval_cases n <;> rfl

theorem exec_decodeRead_of_reserved {a : RegAddr} (reserved : 0xB ≤ a.toNat) (s : State) :
    exec (decodeRead a) s = .next (s.driveRdata 0) := by
  rw [exec_decodeRead, hostRead_of_reserved reserved]

/-! ## Read data -/

theorem zeroExtend_toNat {n : Nat} (v : BitVec n) (narrow : n ≤ 32) : (v.zeroExtend 32).toNat = v.toNat :=
  BitVec.toNat_setWidth_of_le narrow

theorem readCtrl_toNat (r : Regs) : (readCtrl r).toNat = r.srdySrc.toNat :=
  (zeroExtend_toNat _ (by decide)).trans (BitVec.toNat_ofBool _)

theorem readOctave_toInt (r : Regs) : (readOctave r).toInt = r.octave.toInt :=
  BitVec.toInt_signExtend_of_le (by decide)

theorem showsDbState_code (d : DbState) : ShowsDbState d.code d := by
  cases d <;> decide

/-- STATUS with the widths of its fields, most significant first (30_encoding.md R95): the sum tells where an append
puts each field. -/
abbrev statusFields (r : Regs) : BitVec (12 + 1 + 1 + 1 + 1 + 8 + 1 + 1 + 2 + 2 + 2) := readStatus r

theorem statusFields_extract (r : Regs) :
    (statusFields r).extractLsb' 0 2 = r.up.dbState.code ∧ (statusFields r).extractLsb' 2 2 = r.dn.dbState.code ∧
      (statusFields r).extractLsb' 4 2 = r.wv.dbState.code ∧ (statusFields r).extractLsb' 8 8 = r.pollCnt ∧
      (statusFields r).extractLsb' 20 12 = 0 := by
  simp [readStatus, BitVec.extractLsb'_append_eq_of_le, BitVec.extractLsb'_append_eq_right, -Nat.reduceAdd]

theorem statusFields_getLsbD (r : Regs) :
    (statusFields r).getLsbD 6 = r.tdiv ∧ (statusFields r).getLsbD 7 = false ∧
      (statusFields r).getLsbD 16 = r.up.bs2 ∧ (statusFields r).getLsbD 17 = r.dn.bs2 ∧
      (statusFields r).getLsbD 18 = r.wv.bs2 ∧ (statusFields r).getLsbD 19 = r.rs2 := by
  simp [readStatus, BitVec.getLsbD_append, -BitVec.getLsbD_eq_getElem, -Nat.reduceAdd]

/-- Settles O23: a read drives `hostRead` of its address, here a register of fewer than 32 bits, extended. -/
theorem parameterReadsReturnTheirRegister : Obligations.ParameterReadsReturnTheirRegister := by
  intro s d
  exact ⟨_, _, _, _, _,
    ⟨decode_hostWord_read 0x0 d, readCtrl_toNat s.start, exec_decodeRead 0x0 s⟩,
    ⟨decode_hostWord_read 0x1 d, zeroExtend_toNat s.start.note (by decide), exec_decodeRead 0x1 s⟩,
    ⟨decode_hostWord_read 0x2 d, readOctave_toInt s.start, exec_decodeRead 0x2 s⟩,
    ⟨decode_hostWord_read 0x3 d, zeroExtend_toNat s.start.waveform (by decide), exec_decodeRead 0x3 s⟩,
    ⟨decode_hostWord_read 0x4 d, zeroExtend_toNat s.start.volume (by decide), exec_decodeRead 0x4 s⟩⟩

/-- Settles O24: `hostRead` gives 0 at the two write-only addresses. -/
theorem commandAndFlagReads : Obligations.CommandAndFlagReads := by
  intro s d
  exact ⟨_, ⟨decode_hostWord_read 0x5 d, exec_decodeRead 0x5 s⟩,
    ⟨decode_hostWord_read 0x6 d, zeroExtend_toNat s.start.flags (by decide), exec_decodeRead 0x6 s⟩,
    ⟨decode_hostWord_read 0x7 d, exec_decodeRead 0x7 s⟩⟩

/-- Settles O25: each field of STATUS stands where the layout puts it. -/
theorem observationReads : Obligations.ObservationReads := by
  intro s d
  obtain ⟨up, dn, wv, poll, high⟩ := statusFields_extract s.start
  obtain ⟨tdiv, gap, upLine, dnLine, wvLine, sensor⟩ := statusFields_getLsbD s.start
  have shows {v : BitVec 2} {st : DbState} (code : v = st.code) : ShowsDbState v st := code ▸ showsDbState_code st
  exact ⟨_, _, ⟨decode_hostWord_read 0x8 d, exec_decodeRead 0x8 s⟩,
    ⟨decode_hostWord_read 0x9 d, zeroExtend_toNat s.start.outCode (by decide), exec_decodeRead 0x9 s⟩,
    decode_hostWord_read 0xA d, exec_decodeRead 0xA s, shows up, shows dn, shows wv, tdiv, gap, poll, upLine, dnLine,
    wvLine, sensor, high⟩

/-! ## Transactions without effect -/

/-- Settles O26: a row of a reserved address is the decoded row of that address. -/
theorem reservedTransactionsDoNothing : Obligations.ReservedTransactionsDoNothing := by
  intro s
  have read {a : RegAddr} (reserved : 0xB ≤ a.toNat) := exec_decodeRead_of_reserved reserved s
  have write {a : RegAddr} (reserved : 0xB ≤ a.toNat) (d : Word) :=
    exec_decodeWrite_of_no_effect (Nat.le_trans (by decide) reserved) d s
  exact ⟨read (a := 0xB) (by decide), read (a := 0xC) (by decide), read (a := 0xD) (by decide),
    read (a := 0xE) (by decide), read (a := 0xF) (by decide), write (a := 0xB) (by decide) 0,
    write (a := 0xC) (by decide) 0, write (a := 0xD) (by decide) 0, write (a := 0xE) (by decide) 0,
    write (a := 0xF) (by decide) 0, fun a d reserved =>
      ⟨_, _, decode_hostWord_read a d, decode_writeWord a d, read reserved, write reserved d⟩⟩

/-- Settles O27: a write of address 8, 9 or 0xA has no effect. -/
theorem writesOfReadOnlyRegistersDoNothing : Obligations.WritesOfReadOnlyRegistersDoNothing := by
  intro s d
  exact ⟨⟨decode_writeWord 0x8 d, exec_decodeWrite_of_no_effect (a := 0x8) (by decide) d s⟩,
    ⟨decode_writeWord 0x9 d, exec_decodeWrite_of_no_effect (a := 0x9) (by decide) d s⟩,
    ⟨decode_writeWord 0xA d, exec_decodeWrite_of_no_effect (a := 0xA) (by decide) d s⟩⟩

theorem setHostMasks_zero_of_atBoundary {s : State} (boundary : AtBoundary s) : s.setHostMasks 0 0 = s := by
  obtain ⟨cfg, regs, start, masks, ports, outs, inputs⟩ := s
  obtain ⟨rfl, rfl⟩ : start = regs ∧ masks = Masks.none := boundary
  have no_mask : { Masks.none with clr := 0, hset := 0 } = Masks.none := rfl
  simp only [setHostMasks_spec, no_mask, mergeFlags_none]

/-- Settles O37: with no mask made, the merge leaves FLAGS as it is. -/
theorem nopDoesNothing : Obligations.NopDoesNothing := by
  intro s boundary
  rw [exec, execNop, setHostMasks_zero_of_atBoundary boundary]
  rfl

/-! ## Writes of the parameters -/

theorem ctrlOfData_eq (d : Word) : ctrlOfData d = decide (d.toNat % 2 = 1) := by
  rw [ctrlOfData, BitVec.getLsbD, Nat.testBit_zero]

/-- A value clamped into the register's range is stored as it is. -/
theorem toNat_ofInt_clamp {n : Nat} (v : Int) {hi : Nat} (fits : hi < 2 ^ n) :
    ((BitVec.ofInt n (clamp v 0 hi)).toNat : Int) = clamp v 0 hi := by
  obtain ⟨nonneg, le⟩ := clamp_le (v := v) (lo := 0) (hi := hi) (by omega)
  exact toNat_ofInt_of_fits nonneg (le.trans_lt (by exact_mod_cast fits))

/-- Settles O28: `DATA[0]` is the parity of the data. -/
theorem writeCtrlStoresItsLowBit : Obligations.WriteCtrlStoresItsLowBit := by
  intro s d
  refine ⟨decode_writeWord 0x0 d, ?_⟩
  rw [← ctrlOfData_eq]
  rfl

/-- Settles O29: 12 bits hold 0xC00. -/
theorem writeNoteClamps : Obligations.WriteNoteClamps :=
  fun _ d => ⟨noteOfData d, decode_writeWord 0x1 d, toNat_ofInt_clamp (hi := 0xC00) _ (by decide), rfl⟩

/-- Settles O30: three bits hold -3 to 3. -/
theorem writeOctaveClamps : Obligations.WriteOctaveClamps :=
  fun _ d => ⟨octaveOfData d, decode_writeWord 0x2 d, toInt_ofInt_clamp_octave _, rfl⟩

/-- Settles O31: two bits hold 2. -/
theorem writeWaveformClamps : Obligations.WriteWaveformClamps :=
  fun _ d => ⟨waveformOfData d, decode_writeWord 0x3 d, toNat_ofInt_clamp (hi := 2) _ (by decide), rfl⟩

/-- Settles O32: seven bits hold 100. -/
theorem writeVolumeClamps : Obligations.WriteVolumeClamps :=
  fun _ d => ⟨volumeOfData d, decode_writeWord 0x4 d, toNat_ofInt_clamp (hi := 100) _ (by decide), rfl⟩

/-! ## Commands -/

theorem octaveStep_toInt (o : BitVec 3) (u d : Bool) :
    (octaveStep o u d).toInt = clamp (o.toInt + u.toNat - d.toNat) (-3) 3 := by
  have bit (b : Bool) : b.toInt = b.toNat := by cases b <;> rfl
  rw [octaveStep, bit, bit]
  exact toInt_ofInt_clamp_octave _

theorem waveStep_toNat (w : BitVec 2) (b : Bool) : (waveStep w b).toNat = (w.toNat + b.toNat) % 3 := by
  simp only [waveStep, waveCount, BitVec.toNat_ofNat]
  omega

theorem commandBits_append (x : BitVec 29) (cmd : BitVec 3) : commandBits (x ++ cmd) = cmd :=
  BitVec.extractLsb'_append_eq_right

/-- A single-bit command is its row whatever the other data bits (log 16). -/
theorem decodeCommand_append (x : BitVec 29) :
    decodeCommand (x ++ 0b001#3) = .wrCmdOctUp ∧ decodeCommand (x ++ 0b010#3) = .wrCmdOctDown ∧
      decodeCommand (x ++ 0b100#3) = .wrCmdWaveNext := by
  simp only [decodeCommand, commandBits_append x]
  exact ⟨rfl, rfl, rfl⟩

/-- Settles O33: the general row moves both registers by their steps. -/
theorem commandMovesOctaveAndWaveform : Obligations.CommandMovesOctaveAndWaveform := by
  intro s d
  refine ⟨_, _, fun general => ?_, octaveStep_toInt s.start.octave _ _, waveStep_toNat s.start.waveform _,
    congrArg Host.Outcome.next (command_spec s _ _ _)⟩
  exact (decode_writeWord 0x5 d).trans (congrArg _ (decodeCommand_of_not_single general))

/-- Settles O34: each row moves its own register by its step. -/
theorem singleBitCommands : Obligations.SingleBitCommands := by
  intro s
  refine ⟨_, _, _, ?up, ?down, waveStep_toNat s.start.waveform true, rfl, rfl, rfl, fun x => ?rows⟩
  case up => simpa [clamp] using octaveStep_toInt s.start.octave true false
  case down => simpa [clamp] using octaveStep_toInt s.start.octave false true
  case rows =>
    obtain ⟨up, down, wave⟩ := decodeCommand_append x
    exact ⟨(decode_writeWord 0x5 _).trans (congrArg _ up), (decode_writeWord 0x5 _).trans (congrArg _ down),
      (decode_writeWord 0x5 _).trans (congrArg _ wave)⟩

/-! ## Writes of FLAGS and FLAGS_SET -/

/-- FLAGS after the host's masks, flag by flag (10_state.md R50). -/
theorem mergeFlags_hostMasks_getLsbD (f c h : BitVec 5) (m : Masks) (i : Nat) :
    (mergeFlags f { m with clr := c, hset := h }).getLsbD i = true ↔
      (f.getLsbD i = true ∧ c.getLsbD i = false) ∨ h.getLsbD i = true ∨ m.sset.getLsbD i = true ∨
        m.bsetUp.getLsbD i = true ∨ m.bsetDn.getLsbD i = true ∨ m.bsetWv.getLsbD i = true := by
  simp [mergeFlags_getLsbD, or_assoc]

/-- Settles O35: the merge with the clear mask `DATA[4:0]` and no set mask of the host. -/
theorem writeFlagsClears : Obligations.WriteFlagsClears := by
  intro s d
  refine ⟨_, clearMaskOfData d, decode_writeWord 0x6 d, rfl, BitVec.extractLsb'_toNat .., fun i => ?_⟩
  rw [mergeFlags_hostMasks_getLsbD, clearMaskOfData_getLsbD]
  simp

/-- Settles O36: the merge with no clear mask and a set mask of bit 4 alone. -/
theorem writeFlagsSetSetsDisplayDirty : Obligations.WriteFlagsSetSetsDisplayDirty := by
  intro s d
  have mask (i : Fin 5) : (setMaskOfData d).getLsbD i = true ↔ i = 4 ∧ d.getLsbD 4 = true := by
    rw [setMaskOfData_getLsbD, Fin.ext_iff]
    rfl
  refine ⟨_, setMaskOfData d, decode_writeWord 0x7 d, rfl, mask, fun i => ?_⟩
  rw [mergeFlags_hostMasks_getLsbD, mask]
  simp

end Sys2Proof.Machine
end

section
/-! No order among the events of a cycle can be seen (60_exceptions.md R205): the operations of a cycle belong to
different units, each reads S and writes the elements and the mask of its own unit, so any two of them commute. And a
cycle always completes (R200). -/

namespace Sys2Proof.Machine

open Sys2Proof Sys2Proof.Config Sys2Proof.Safety

/-! ## A run as a fold of effects -/

/-- What a unit does, as a function on states: no operation stops (60_exceptions.md R200). -/
def opEffect (c : CycleOp) (s : State) : State :=
  match runOp c s with
  | .next t => t
  | .fault _ | .refused _ => s

theorem opEffect_eq {c : CycleOp} {f : State → State} (h : ∀ s, runOp c s = .next (f s)) : opEffect c = f := by
  funext s
  rw [opEffect, h s]

theorem runOp_eq_opEffect (c : CycleOp) (s : State) : runOp c s = .next (opEffect c s) := by
  obtain ⟨t, ht⟩ := runOp_total c s
  rw [opEffect, ht]

theorem runOps_eq_foldl (l : List CycleOp) (s : State) :
    runOps l s = .next (l.foldl (fun t c => opEffect c t) s) := by
  induction l generalizing s with
  | nil => rfl
  | cons c l ih => exact (runOps_cons_next (runOp_eq_opEffect c s)).trans (ih _)

/-- Operations of which any two commute can run in any order. -/
theorem runOps_perm {l m : List CycleOp} (perm : l.Perm m)
    (comm : m.Pairwise fun c d => Function.Commute (opEffect c) (opEffect d)) (s : State) :
    runOps l s = runOps m s := by
  have symm : Std.Symm fun c d => Function.Commute (opEffect c) (opEffect d) := ⟨fun _ _ h => h.symm⟩
  have any_two : ∀ c ∈ m, ∀ d ∈ m, Function.Commute (opEffect c) (opEffect d) := fun c hc d hd =>
    comm.forall_of_forall (fun c _ => Function.Commute.refl (opEffect c)) hc hd
  rw [runOps_eq_foldl, runOps_eq_foldl, perm.symm.foldl_eq' (fun c hc d hd t => any_two d hd c hc t)]

/-! ## The engine, the sensor unit and the buttons -/

/-- In a cycle with the ports and S of `c` the sensor unit sets its flags, its poll count in `r` (41_input_bridge.md
R143, R144). -/
def sensorFires (c : State) (p : Params) (r : Regs) : Bool :=
  if c.start.srdySrc then c.ports.tick && r.pollCnt + 1 == p.pollPeriod else readyEdge c.cfg c.start

/-- The sensor unit as one record, whatever the other units have written before it. -/
theorem sensorEffect_eq (c s : State) :
    sensorEffect c s =
      { s with
        regs := { s.regs with
          rs1 := s.ports.srdy, rs2 := s.start.rs1, rs3 := s.start.rs2
          pollCnt :=
            if sensorFires c s.cfg s.start then 0
            else if c.start.srdySrc && c.ports.tick then s.start.pollCnt + 1
            else if s.start.srdySrc then s.regs.pollCnt else 0
          flags :=
            if sensorFires c s.cfg s.start then mergeFlags s.start.flags { s.masks with sset := sensorFlags }
            else s.regs.flags }
        masks := { s.masks with sset := if sensorFires c s.cfg s.start then sensorFlags else s.masks.sset } } := by
  unfold sensorEffect sensorFires
  cases c.start.srdySrc with
  | false =>
    cases readyEdge c.cfg c.start with
    | false => exact quietSensor_spec s
    | true => rfl
  | true =>
    cases c.ports.tick with
    | false => exact quietSensor_spec s
    | true =>
      by_cases last : s.start.pollCnt + 1#8 = s.cfg.pollPeriod <;>
        simp [pollStep_spec, last, State.shiftSensor, State.writeRs, State.updRegs]

section Commute

variable (c : State) (tick : Bool)

theorem ddsEffect_sensorEffect_commute : Function.Commute (ddsEffect tick) (sensorEffect c) := by
  intro s
  simp only [ddsEffect_spec, sensorEffect_eq]

theorem ddsEffect_buttonEffect_commute (b : Button) (fall : Bool) :
    Function.Commute (ddsEffect tick) (buttonEffect b fall) := by
  intro s
  simp only [ddsEffect_spec, buttonEffect_spec]
  cases b <;> rfl

theorem sensorEffect_buttonEffect_commute (b : Button) (fall : Bool) :
    Function.Commute (sensorEffect c) (buttonEffect b fall) := by
  intro s
  simp only [sensorEffect_eq, buttonEffect_spec]
  cases sensorFires c s.cfg s.start <;> cases b <;> rfl

theorem buttonEffect_commute {b b' : Button} (ne : b ≠ b') (fall fall' : Bool) :
    Function.Commute (buttonEffect b fall) (buttonEffect b' fall') := by
  intro s
  cases b <;> cases b' <;> simp at ne <;> rfl

end Commute

/-! ## The host -/

/-- `g` keeps to another unit's part of the state: it commutes with each of the writes that make up the host's
operations, of whatever value computed from S. -/
structure LeavesHostPart (g : State → State) : Prop where
  rdata (v : Regs → Word) : Function.Commute (fun s => s.driveRdata (v s.start)) g
  srdySrc (v : Regs → Bool) : Function.Commute (fun s => s.writeSrdySrc (v s.start)) g
  note (v : Regs → BitVec 12) : Function.Commute (fun s => s.writeNote (v s.start)) g
  octave (v : Regs → BitVec 3) : Function.Commute (fun s => s.writeOctave (v s.start)) g
  waveform (v : Regs → BitVec 2) : Function.Commute (fun s => s.writeWaveform (v s.start)) g
  volume (v : Regs → BitVec 7) : Function.Commute (fun s => s.writeVolume (v s.start)) g
  masks (c h : BitVec 5) : Function.Commute (fun s => s.setHostMasks c h) g

theorem ddsEffect_leavesHostPart (tick : Bool) : LeavesHostPart (ddsEffect tick) := by
  constructor <;> (intros; intro s; simp only [ddsEffect_spec]; rfl)

theorem buttonEffect_leavesHostPart (b : Button) (fall : Bool) : LeavesHostPart (buttonEffect b fall) := by
  cases b <;> constructor <;> (intros; intro s; simp only [buttonEffect_spec]; rfl)

theorem sensorEffect_leavesHostPart (c : State) : LeavesHostPart (sensorEffect c) := by
  constructor
  case masks =>
    intro clr hset s
    simp only [sensorEffect_eq, setHostMasks_spec]
    cases sensorFires c s.cfg s.start <;> rfl
  all_goals
    intro v s
    simp only [sensorEffect_eq]
    rfl

section Leaving

variable {g : State → State} (leaves : LeavesHostPart g)
include leaves

theorem opEffect_decodeRead_commute (a : RegAddr) : Function.Commute (opEffect (.op (decodeRead a))) g := by
  rw [opEffect_eq (c := .op (decodeRead a)) (exec_decodeRead a)]
  exact leaves.rdata (hostRead a)

theorem opEffect_decodeCommand_commute (d : Word) : Function.Commute (opEffect (.op (decodeCommand d))) g := by
  have rdata := leaves.rdata fun _ => 0
  have octave (u d : Bool) := leaves.octave fun r => octaveStep r.octave u d
  have waveform (w : Bool) := leaves.waveform fun r => waveStep r.waveform w
  unfold decodeCommand
  dsimp only
  split_ifs
  · exact rdata.comp_left (octave true false)
  · exact rdata.comp_left (octave false true)
  · exact rdata.comp_left (waveform true)
  · exact rdata.comp_left ((waveform (d.getLsbD 2)).comp_left (octave (d.getLsbD 0) (d.getLsbD 1)))

theorem opEffect_decodeWrite_commute (a : RegAddr) (d : Word) :
    Function.Commute (opEffect (.op (decodeWrite a d))) g := by
  have rdata := leaves.rdata fun _ => 0
  unfold decodeWrite
  split
  case h_1 => exact rdata.comp_left (leaves.srdySrc fun _ => ctrlOfData d)
  case h_2 => exact rdata.comp_left (leaves.note fun _ => noteOfData d)
  case h_3 => exact rdata.comp_left (leaves.octave fun _ => octaveOfData d)
  case h_4 => exact rdata.comp_left (leaves.waveform fun _ => waveformOfData d)
  case h_5 => exact rdata.comp_left (leaves.volume fun _ => volumeOfData d)
  case h_6 => exact opEffect_decodeCommand_commute leaves d
  case h_7 => exact rdata.comp_left (leaves.masks (clearMaskOfData d) 0)
  case h_8 => exact rdata.comp_left (leaves.masks 0 (setMaskOfData d))
  all_goals exact rdata

/-- The host's operation, whichever it is, commutes with what keeps to another unit's part. -/
theorem opEffect_hostInstr_commute (p : Ports) : Function.Commute (opEffect (.op (hostInstr p))) g := by
  unfold hostInstr decodeHost
  split_ifs
  · exact opEffect_decodeWrite_commute leaves _ _
  · exact opEffect_decodeRead_commute leaves _
  · exact (leaves.rdata fun _ => 0).comp_left (leaves.masks 0 0)

end Leaving

/-! ## The operations of a cycle -/

theorem operations_pairwise_commute (s : State) :
    (operations s).Pairwise fun c d => Function.Commute (opEffect c) (opEffect d) := by
  cases rst : s.ports.rst with
  | true =>
    rw [operations_reset s rst]
    exact List.pairwise_singleton _ _
  | false =>
    rw [operations_cycle s rst, unitOp_host s rst]
    have host {g : State → State} (leaves : LeavesHostPart g) := opEffect_hostInstr_commute leaves s.ports
    have dds := opEffect_eq fun t => runOp_dds s t rst
    have sensor := opEffect_eq fun t => runOp_sensor s t rst
    have button (b : Button) := opEffect_eq fun t => runOp_button s t b rst
    simp [dds, sensor, button, host, ddsEffect_leavesHostPart, sensorEffect_leavesHostPart,
      buttonEffect_leavesHostPart, ddsEffect_sensorEffect_commute, ddsEffect_buttonEffect_commute,
      sensorEffect_buttonEffect_commute, buttonEffect_commute]

/-- Settles O12: the operations of a cycle commute, and `step` runs them in one order. -/
theorem orderWithinACycleDoesNotMatter : Obligations.OrderWithinACycleDoesNotMatter := by
  intro s l perm
  obtain ⟨t, ht⟩ := runOps_total l (beginCycle s)
  refine ⟨t, ht, step_of_runOps ?_⟩
  rw [← runOps_perm perm (operations_pairwise_commute _), ht]

/-- Settles O13: a step is `afterCycle`, which takes the next input and ends at a boundary. -/
theorem everyCycleCompletes : Obligations.EveryCycleCompletes :=
  fun s => ⟨afterCycle s, step_eq_afterCycle s, ⟨rfl, rfl⟩, rfl, rfl⟩

end Sys2Proof.Machine
end

section
/-! Reset (70_reset_and_hazards.md): a reset cycle loads ResetState and nothing else counts in it (R220 to R222), and
the cycle after it is an ordinary cycle from there (R223). -/

namespace Sys2Proof.Machine

open Sys2Proof Sys2Proof.Config Sys2Proof.Safety

/-! ## A cycle with its ports placed -/

theorem nextPorts_of_inputs_cons {s : State} {p : Ports} {rest : List Ports} (inputs : s.inputs = p :: rest) :
    s.nextPorts = p := by
  rw [State.nextPorts, inputs]

theorem cycleRegs_volume_of_writes (c : Params) (r : Regs) {p : Ports} (rst : p.rst = false) (volume : WritesTo p 0x4) :
    (cycleRegs c r p).volume = volumeOfData p.busWdata := by
  rw [cycleRegs_of_not_rst c r rst]
  exact hostRegs_volume r ((writes_iff p 0x4).mpr volume)

/-! ## The reset cycle -/

theorem cycleRegs_of_rst (c : Params) (r : Regs) {p : Ports} (rst : p.rst = true) : cycleRegs c r p = Regs.reset c :=
  if_pos rst

theorem rdata_of_rst (r : Regs) {p : Ports} (rst : p.rst = true) : Rule50.rdata r p = 0 := by
  simp [Rule50.rdata, rst]

theorem afterCycle_outs_of_rst {s : State} (rst : s.nextPorts.rst = true) : (afterCycle s).outs = s.regs.outputs := by
  rw [afterCycle, Rule50.outputs, rdata_of_rst _ rst, Regs.outputs]

theorem afterCycle_regs_of_rst {s : State} (rst : s.nextPorts.rst = true) :
    (afterCycle s).regs = Regs.reset s.cfg :=
  cycleRegs_of_rst s.cfg s.regs rst

theorem exec_reset (s : State) : exec .reset s = .next s.enterReset := by
  rfl

theorem reset_btn (c : Params) (b : Button) : (Regs.reset c).btn b = ButtonRegs.reset := by
  cases b <;> rfl

/-- Settles O7: `Regs.reset` lists the values, the three buttons alike. -/
theorem resetStateHasTheListedValues : Obligations.ResetStateHasTheListedValues := by
  refine ⟨fun c => ?_, rfl⟩
  refine ⟨rfl, rfl, rfl, rfl, rfl, rfl, rfl, rfl, rfl, rfl, rfl, fun b => ?_, rfl, rfl, rfl⟩
  rw [reset_btn]
  exact ⟨rfl, rfl, rfl, rfl, rfl, rfl⟩

/-- Settles O8: `rst` is looked at before the state and the other ports. -/
theorem resetOverridesEverything : Obligations.ResetOverridesEverything :=
  ⟨exec_reset, fun s p rst =>
    ⟨_, step_eq_afterCycle _, afterCycle_regs_of_rst (s := s.pushPorts p) rst, rfl, rfl, rfl, rfl⟩⟩

/-- Settles O9: each cycle's outputs are those of its start, which is `s` and then ResetState. -/
theorem outputsInAndAfterReset : Obligations.OutputsInAndAfterReset := by
  intro s p q rest inputs rst
  have rst_now : s.nextPorts.rst = true := (nextPorts_of_inputs_cons inputs).symm ▸ rst
  refine ⟨_, _, step_eq_afterCycle _, step_eq_afterCycle _, afterCycle_outs_of_rst rst_now, ?_⟩
  rw [afterCycle, Rule50.outputs, afterCycle_regs_of_rst rst_now]
  exact ⟨rfl, rfl, rfl, rfl⟩

/-! ## The cycle from ResetState -/

theorem octave_reset (c : Params) : (Regs.reset c).octave.toInt = 0 := by
  rfl

/-- For every configuration, legal or not: OCTAVE and WAVEFORM, all that R50 needs of R43, are 0 (log 12). -/
theorem cycleRegs_reset (c : Params) (p : Ports) :
    cycleRegs c (Regs.reset c) p = Rule50.stepRegs c (Regs.reset c) p := by
  have octave := hostOctave_of_legal (r := Regs.reset c) (by rw [octave_reset]; decide) (by rw [octave_reset]; decide) p
  have waveform := hostWaveform_of_legal (r := Regs.reset c) (Nat.zero_le 2) p
  cases rst : p.rst <;> simp [cycleRegs, Rule50.stepRegs, rst, octave, waveform]

/-- TDIV is 0, so either cadence samples at once (40_dds_engine.md R101). -/
theorem sampleNow_reset (c : Params) : sampleNow c (Regs.reset c) true = true :=
  (sampleNow_iff ..).mpr ⟨rfl, .inr rfl⟩

/-- NOTE and OCTAVE are 0: the first tuning word, shifted to the middle octave (R103 to R105). -/
theorem phaseIncrement_reset (c : Params) :
    phaseIncrement c (Regs.reset c) = c.inc3[(0 : Fin 13)].toNat * 2 ^ 3 := by
  have index : noteIndex (Regs.reset c).note = 0 := show noteIndex 0 = 0 by decide
  have word : c.inc3[noteIndex (Regs.reset c).note] = c.inc3[(0 : Fin 13)] :=
    congrArg (fun i : Fin 13 => c.inc3[i]) index
  rw [phaseIncrement_of_octave_ge c (by rw [octave_reset]; decide), word, octave_reset]
  rfl

theorem nextPhase_reset_toNat (c : Params) :
    (nextPhase c (Regs.reset c)).toNat = (c.inc3[(0 : Fin 13)].toNat * 2 ^ 3) % phaseMod := by
  have phase : (Regs.reset c).phase.toNat = 0 := rfl
  rw [nextPhase_toNat, phaseIncrement_reset, phase, Nat.zero_add]

theorem volumeOfData_toNat (d : Word) : ((volumeOfData d).toNat : Int) = clamp d.toInt 0 100 :=
  toNat_ofInt_clamp d.toInt (hi := 100) (by decide)

/-- Settles O10: the second step is `cycleRegs` from ResetState, and each clause is one of its elements there. -/
theorem firstCycleAfterResetIsOrdinary : Obligations.FirstCycleAfterResetIsOrdinary := by
  intro s p q rest inputs rst ordinary
  have rst_now : s.nextPorts.rst = true := (nextPorts_of_inputs_cons inputs).symm ▸ rst
  have inputs_then : (afterCycle s).inputs = q :: rest := by rw [afterCycle, inputs, List.tail_cons]
  have regs : (afterCycle (afterCycle s)).regs = cycleRegs s.cfg (Regs.reset s.cfg) q := by
    rw [afterCycle, afterCycle_regs_of_rst rst_now, nextPorts_of_inputs_cons inputs_then]
    rfl
  refine ⟨_, _, step_eq_afterCycle _, step_eq_afterCycle _, ?_⟩
  rw [regs]
  refine ⟨cycleRegs_reset _ _, fun tick => ?sample, fun valid we addr => ?volume⟩
  case sample =>
    rw [cycleRegs_load _ _ ordinary, cycleRegs_phase _ _ ordinary, tick, sampleNow_reset, if_pos rfl]
    exact ⟨rfl, nextPhase_reset_toNat _⟩
  case volume => rw [cycleRegs_volume_of_writes _ _ ordinary ⟨valid, we, addr⟩, volumeOfData_toNat]

end Sys2Proof.Machine
end
